-- ==== Sys2Proof/Word.lean ====
section
/-! DEFINITION. The word types of the AURA codec block (spec 00_scope.md R6, R8): bytes, the unsigned
integers of 16 and 32 bits, and byte sequences in wire order. -/

namespace Sys2Proof

/-- `u8`: a byte is 8 bits (R6). -/
abbrev U8 := BitVec 8

/-- `u16` (R8). -/
abbrev U16 := BitVec 16

/-- `u32` (R8). -/
abbrev U32 := BitVec 32

/-- A byte sequence in the order the bytes travel on the stream, first byte first (R8). -/
abbrev Bytes := List U8

end Sys2Proof
end

