-- ==== Sys2Proof/Syntax.lean ====
section
/-! DEFINITION. The syntax: the data-type variants, the operations as the host issues them at the ports,
and `Instr`, one constructor for each row of spec/opcode_table.json (R5: an instruction is an operation
of the block or a wire word that the operations encode and decode). -/

namespace Sys2Proof

/-- The 21 data-type variants of 43_chunk_tlv.md R156, in the order of its table. -/
inductive DType where
  /-- `NONE` (R156, R240). -/
  | noneType
  /-- `I8` (R156, R241). -/
  | i8
  /-- `U8` (R156, R242). -/
  | u8
  /-- `I16` (R156, R243). -/
  | i16
  /-- `U16` (R156, R244). -/
  | u16
  /-- `I32` (R156, R245). -/
  | i32
  /-- `U32` (R156, R246). -/
  | u32
  /-- `F32` (R156, R247). -/
  | f32
  /-- `F64` (R156, R248). -/
  | f64
  /-- `STRING` (R156, R249). -/
  | string
  /-- `ARR_I8` (R156, R250). -/
  | arrI8
  /-- `ARR_U8` (R156, R251). -/
  | arrU8
  /-- `ARR_I16` (R156, R252). -/
  | arrI16
  /-- `ARR_U16` (R156, R253). -/
  | arrU16
  /-- `ARR_I32` (R156, R254). -/
  | arrI32
  /-- `ARR_U32` (R156, R255). -/
  | arrU32
  /-- `ARR_F32` (R156, R256). -/
  | arrF32
  /-- `ARR_F64` (R156, R257). -/
  | arrF64
  /-- `CARD_UID` (R156, R258). -/
  | cardUid
  /-- `ARR_CARD_UID` (R156, R259). -/
  | arrCardUid
  /-- `CARD_RANGE` (R156, R260). -/
  | cardRange
deriving DecidableEq, Repr

/-- A byte sequence of length at most 65535, the operand type of `TLV.LOAD` (R12, R170). R10 asks a model
to type its operands so that one outside its type cannot be written down. -/
structure Payload where
  /-- the bytes, first byte first -/
  bytes : Bytes
  /-- the operand's length bound -/
  fits : bytes.length ≤ 65535
deriving DecidableEq, Repr

/-- The wire formats of opcode_table.json (R93): frame header, frame trailer, chunk header, and the rows
that no bits select (R90). -/
inductive Format where
  /-- `FH`: 20 bytes (R70) -/
  | fh
  /-- `FT`: 2 bytes (R71) -/
  | ft
  /-- `CH`: 4 bytes (R80) -/
  | ch
  /-- `PORT`: an operation, selected by its port and name (R90) -/
  | port
deriving DecidableEq, Repr

/-- The input ports (R12). -/
inductive Port where
  /-- carries `CRC.INIT` and `CRC.UPD` -/
  | crcCmd
  /-- carries `TX.ENC` and `TX.REQ` -/
  | txCmd
  /-- carries `RX.BYTE` -/
  | rxIn
  /-- carries `RX.EOB` -/
  | rxEob
  /-- carries `TLV.LOAD` and `TLV.STEP` -/
  | tlvCmd
  /-- carries `RESET` -/
  | reset
deriving DecidableEq, Repr

/-- The nine operations with their typed operands, as the host issues them (R12, R90). -/
inductive PortOp where
  /-- `CRC.INIT` (R106) -/
  | crcInit
  /-- `CRC.UPD b` (R107) -/
  | crcUpd (b : U8)
  /-- `TX.ENC seq src dst fn payload` (R118) -/
  | txEnc (seq src dst : U32) (fn : U16) (payload : Bytes)
  /-- `TX.REQ dst fn payload` (R119) -/
  | txReq (dst : U32) (fn : U16) (payload : Bytes)
  /-- `RX.BYTE b` (R135) -/
  | rxByte (b : U8)
  /-- `RX.EOB` (R138) -/
  | rxEob
  /-- `TLV.LOAD p` (R170) -/
  | tlvLoad (p : Payload)
  /-- `TLV.STEP` (R171) -/
  | tlvStep
  /-- `RESET` (R220) -/
  | reset
deriving DecidableEq, Repr

/-- One constructor for each row of spec/opcode_table.json. A frame-header row carries the fields its
`function` code leaves free, a chunk-header row its `id` and `size` (the value bytes are not part of the
word), the trailer row its checksum, an operation its operands. -/
inductive Instr where
  /-- `FRAME.REQ_WHOAMI`: the frame header with `function = 1` (R265) -/
  | frameReqWhoami (seq src dst : U32) (plen : U16)
  /-- `FRAME.RESP_WHOAMI`: the frame header with `function = 2` (R266) -/
  | frameRespWhoami (seq src dst : U32) (plen : U16)
  /-- `FRAME.REQ_STATUS`: the frame header with `function = 3` (R267) -/
  | frameReqStatus (seq src dst : U32) (plen : U16)
  /-- `FRAME.RESP_STATUS`: the frame header with `function = 4` (R268) -/
  | frameRespStatus (seq src dst : U32) (plen : U16)
  /-- `FRAME.REQ_WRITE_DATA`: the frame header with `function = 5` (R269) -/
  | frameReqWriteData (seq src dst : U32) (plen : U16)
  /-- `FRAME.RESP_WRITE_DATA`: the frame header with `function = 6` (R270) -/
  | frameRespWriteData (seq src dst : U32) (plen : U16)
  /-- `FRAME.REQ_READ_DATA`: the frame header with `function = 7` (R271) -/
  | frameReqReadData (seq src dst : U32) (plen : U16)
  /-- `FRAME.RESP_READ_DATA`: the frame header with `function = 8` (R272) -/
  | frameRespReadData (seq src dst : U32) (plen : U16)
  /-- `FRAME.TRAILER`: the two checksum bytes (R71) -/
  | frameTrailer (checksum : U16)
  /-- `CHUNK.NONE`: the chunk header of that variant (R240) -/
  | chunkNone (id : U8) (size : U16)
  /-- `CHUNK.I8`: the chunk header of that variant (R241) -/
  | chunkI8 (id : U8) (size : U16)
  /-- `CHUNK.U8`: the chunk header of that variant (R242) -/
  | chunkU8 (id : U8) (size : U16)
  /-- `CHUNK.I16`: the chunk header of that variant (R243) -/
  | chunkI16 (id : U8) (size : U16)
  /-- `CHUNK.U16`: the chunk header of that variant (R244) -/
  | chunkU16 (id : U8) (size : U16)
  /-- `CHUNK.I32`: the chunk header of that variant (R245) -/
  | chunkI32 (id : U8) (size : U16)
  /-- `CHUNK.U32`: the chunk header of that variant (R246) -/
  | chunkU32 (id : U8) (size : U16)
  /-- `CHUNK.F32`: the chunk header of that variant (R247) -/
  | chunkF32 (id : U8) (size : U16)
  /-- `CHUNK.F64`: the chunk header of that variant (R248) -/
  | chunkF64 (id : U8) (size : U16)
  /-- `CHUNK.STRING`: the chunk header of that variant (R249) -/
  | chunkString (id : U8) (size : U16)
  /-- `CHUNK.ARR_I8`: the chunk header of that variant (R250) -/
  | chunkArrI8 (id : U8) (size : U16)
  /-- `CHUNK.ARR_U8`: the chunk header of that variant (R251) -/
  | chunkArrU8 (id : U8) (size : U16)
  /-- `CHUNK.ARR_I16`: the chunk header of that variant (R252) -/
  | chunkArrI16 (id : U8) (size : U16)
  /-- `CHUNK.ARR_U16`: the chunk header of that variant (R253) -/
  | chunkArrU16 (id : U8) (size : U16)
  /-- `CHUNK.ARR_I32`: the chunk header of that variant (R254) -/
  | chunkArrI32 (id : U8) (size : U16)
  /-- `CHUNK.ARR_U32`: the chunk header of that variant (R255) -/
  | chunkArrU32 (id : U8) (size : U16)
  /-- `CHUNK.ARR_F32`: the chunk header of that variant (R256) -/
  | chunkArrF32 (id : U8) (size : U16)
  /-- `CHUNK.ARR_F64`: the chunk header of that variant (R257) -/
  | chunkArrF64 (id : U8) (size : U16)
  /-- `CHUNK.CARD_UID`: the chunk header of that variant (R258) -/
  | chunkCardUid (id : U8) (size : U16)
  /-- `CHUNK.ARR_CARD_UID`: the chunk header of that variant (R259) -/
  | chunkArrCardUid (id : U8) (size : U16)
  /-- `CHUNK.CARD_RANGE`: the chunk header of that variant (R260) -/
  | chunkCardRange (id : U8) (size : U16)
  /-- `CRC.INIT` (R106) -/
  | crcInit
  /-- `CRC.UPD b` (R107) -/
  | crcUpd (b : U8)
  /-- `TX.ENC seq src dst fn payload` (R118) -/
  | txEnc (seq src dst : U32) (fn : U16) (payload : Bytes)
  /-- `TX.REQ dst fn payload` (R119) -/
  | txReq (dst : U32) (fn : U16) (payload : Bytes)
  /-- `RX.BYTE b` (R135) -/
  | rxByte (b : U8)
  /-- `RX.EOB` (R138) -/
  | rxEob
  /-- `TLV.LOAD p` (R170) -/
  | tlvLoad (p : Payload)
  /-- `TLV.STEP` (R171) -/
  | tlvStep
  /-- `RESET` (R220) -/
  | reset
deriving DecidableEq, Repr

end Sys2Proof
end

