-- ==== Sys2Proof/Config.lean ====
section
/-! DEFINITION. The implementation parameters of 00_scope.md R7, as plain data: `TAGMAP` and
`CONTROLLER_ID`. The spec leaves both open and asks a model to take them as arguments, so a state carries
them (`State.params`) and every statement over all states holds for every value of them. The one instance
written down is the spec's own placeholder `TAGMAP_REF` (R83) with the example identity 1234, used only
where a closed term is needed (`State.reset`, `decodeTableWord`).
DESIGN CHOICE (notes/assumptions/1.md, 2.md): unsafe for a claim about `State.reset` itself. -/

namespace Sys2Proof

/-- `TAGMAP`, given by the tag of each of the 19 variants whose number the source leaves open (R7, R82).
Tags 0 and 21 are the source's and are not fields; that every tag above 21 is unassigned is in
`TagMap.dtype`. `TagMap.wf` says which values are legal. -/
structure TagMap where
  /-- the tag of `I8` -/
  i8 : U8
  /-- the tag of `U8` -/
  u8 : U8
  /-- the tag of `I16` -/
  i16 : U8
  /-- the tag of `U16` -/
  u16 : U8
  /-- the tag of `I32` -/
  i32 : U8
  /-- the tag of `U32` -/
  u32 : U8
  /-- the tag of `F32` -/
  f32 : U8
  /-- the tag of `F64` -/
  f64 : U8
  /-- the tag of `STRING` -/
  string : U8
  /-- the tag of `ARR_I8` -/
  arrI8 : U8
  /-- the tag of `ARR_U8` -/
  arrU8 : U8
  /-- the tag of `ARR_I16` -/
  arrI16 : U8
  /-- the tag of `ARR_U16` -/
  arrU16 : U8
  /-- the tag of `ARR_I32` -/
  arrI32 : U8
  /-- the tag of `ARR_U32` -/
  arrU32 : U8
  /-- the tag of `ARR_F32` -/
  arrF32 : U8
  /-- the tag of `ARR_F64` -/
  arrF64 : U8
  /-- the tag of `CARD_UID` -/
  cardUid : U8
  /-- the tag of `ARR_CARD_UID` -/
  arrCardUid : U8
deriving DecidableEq, Repr

/-- The two parameters fixed when the block is instantiated (R7, R64). -/
structure Params where
  /-- `CONTROLLER_ID`, the identity of this host on the bus (R7 (b)) -/
  controllerId : U32
  /-- `TAGMAP` (R7 (a)) -/
  tags : TagMap
deriving DecidableEq, Repr

/-- `TAGMAP_REF` (30_encoding.md R83): the variants numbered 1 to 19 in the order of R156, 20 a gap. A
placeholder of the spec, no claim about any device. -/
def Config.tagMapRef : TagMap where
  i8 := 1
  u8 := 2
  i16 := 3
  u16 := 4
  i32 := 5
  u32 := 6
  f32 := 7
  f64 := 8
  string := 9
  arrI8 := 10
  arrU8 := 11
  arrI16 := 12
  arrU16 := 13
  arrI32 := 14
  arrU32 := 15
  arrF32 := 16
  arrF64 := 17
  cardUid := 18
  arrCardUid := 19

/-- The parameters of the spec's test vectors (95_test_vectors.md): `TAGMAP_REF` and `CONTROLLER_ID = 1234`.
DESIGN CHOICE (notes/assumptions/1.md, 2.md). -/
def Config.referenceParams : Params where
  controllerId := 1234
  tags := Config.tagMapRef

end Sys2Proof
end

