-- ==== Sys2Proof/WellFormed.lean ====
section
/-! DEFINITION. Well-formedness: which parameters are legal (00_scope.md R7, 30_encoding.md R82) and which
instructions have a word under given parameters. -/

namespace Sys2Proof

/-- The tags of the 19 variants that `TAGMAP` places in 1 to 20, in the order of R156. -/
def TagMap.toList (m : TagMap) : List U8 :=
  [m.i8, m.u8, m.i16, m.u16, m.i32, m.u32, m.f32,
   m.f64, m.string, m.arrI8, m.arrU8, m.arrI16, m.arrU16, m.arrI32,
   m.arrU32, m.arrF32, m.arrF64, m.cardUid, m.arrCardUid]

/-- Each of the 19 variants has a tag in 1 to 20 (R82). -/
def TagMap.inRange (m : TagMap) : Bool :=
  m.toList.all fun t => 1 ≤ t.toNat && t.toNat ≤ 20

/-- No two variants have the same tag: `TAGMAP` is a function. -/
def TagMap.distinct (m : TagMap) : Bool :=
  decide m.toList.Nodup

/-- The tag maps R7 and R82 allow. -/
def TagMap.wf (m : TagMap) : Bool :=
  m.inRange && m.distinct

/-- Legal parameters: every `CONTROLLER_ID` is legal (R7 (b)). -/
def Params.wf (p : Params) : Bool :=
  p.tags.wf

/-- The instructions that are well formed under the parameters `p`. The operands are typed so that every
value of them is legal (R10); what can be wrong is only the tag number that a chunk row's word carries. -/
def Instr.wf (p : Params) : Instr → Bool
  | .frameReqWhoami _ _ _ _ => true
  | .frameRespWhoami _ _ _ _ => true
  | .frameReqStatus _ _ _ _ => true
  | .frameRespStatus _ _ _ _ => true
  | .frameReqWriteData _ _ _ _ => true
  | .frameRespWriteData _ _ _ _ => true
  | .frameReqReadData _ _ _ _ => true
  | .frameRespReadData _ _ _ _ => true
  | .frameTrailer _ => true
  | .chunkNone _ _ => true
  | .chunkI8 _ _ => p.tags.wf
  | .chunkU8 _ _ => p.tags.wf
  | .chunkI16 _ _ => p.tags.wf
  | .chunkU16 _ _ => p.tags.wf
  | .chunkI32 _ _ => p.tags.wf
  | .chunkU32 _ _ => p.tags.wf
  | .chunkF32 _ _ => p.tags.wf
  | .chunkF64 _ _ => p.tags.wf
  | .chunkString _ _ => p.tags.wf
  | .chunkArrI8 _ _ => p.tags.wf
  | .chunkArrU8 _ _ => p.tags.wf
  | .chunkArrI16 _ _ => p.tags.wf
  | .chunkArrU16 _ _ => p.tags.wf
  | .chunkArrI32 _ _ => p.tags.wf
  | .chunkArrU32 _ _ => p.tags.wf
  | .chunkArrF32 _ _ => p.tags.wf
  | .chunkArrF64 _ _ => p.tags.wf
  | .chunkCardUid _ _ => p.tags.wf
  | .chunkArrCardUid _ _ => p.tags.wf
  | .chunkCardRange _ _ => true
  | .crcInit => true
  | .crcUpd _ => true
  | .txEnc _ _ _ _ _ => true
  | .txReq _ _ _ => true
  | .rxByte _ => true
  | .rxEob => true
  | .tlvLoad _ => true
  | .tlvStep => true
  | .reset => true

end Sys2Proof
end

