-- ==== Sys2Proof/Decode.lean ====
section
/-! DEFINITION. The wire formats of 30_encoding.md: byte order, the code spaces (`function` codes, tags),
the decoder of the three wire formats, total on any bytes, and the encoder. -/

namespace Sys2Proof

/-! ### Byte order (R9, R53, R85) -/

/-- The unsigned integer a byte sequence stands for, little-endian (R9). -/
def leNat : Bytes → Nat
  | [] => 0
  | b :: t => b.toNat + 256 * leNat t

/-- `le_n(v)`: the `n` bytes of `v`, low byte first; bits above `8n` are not written (R9). -/
def leBytes : Nat → Nat → Bytes
  | 0, _ => []
  | n + 1, v => BitVec.ofNat 8 v :: leBytes n (v / 256)

/-- `s[i..j)` (R8). -/
def slice (s : Bytes) (i j : Nat) : Bytes :=
  (s.drop i).take (j - i)

/-- `LE(s, off, n)` (R9). The spec defines it only where `off + n ≤ |s|`; every use in the model meets
that in every state that `State.inv` admits. -/
def leAt (s : Bytes) (off n : Nat) : Nat :=
  leNat (slice s off (off + n))

/-- A 16-bit field at `off` (R85). -/
def field16 (s : Bytes) (off : Nat) : U16 :=
  BitVec.ofNat 16 (leAt s off 2)

/-- A 32-bit field at `off` (R85). -/
def field32 (s : Bytes) (off : Nat) : U32 :=
  BitVec.ofNat 32 (leAt s off 4)

/-- A one-byte field at `off`: the byte itself (R85). -/
def field8 (s : Bytes) (off : Nat) : U8 :=
  s.getD off 0

/-- The two wire bytes of a 16-bit field (R53). -/
def le16 (v : U16) : Bytes := leBytes 2 v.toNat

/-- The four wire bytes of a 32-bit field (R53). -/
def le32 (v : U32) : Bytes := leBytes 4 v.toNat

/-! ### Constants of the formats (R6) -/

/-- `HEADER_LEN` (R6). -/
def headerLen : Nat := 20

/-- `CSUM_LEN` (R6). -/
def csumLen : Nat := 2

/-- `CHUNK_HDR_LEN` (R6). -/
def chunkHdrLen : Nat := 4

/-- `PAYLOAD_MAX` (R6). -/
def payloadMax : Nat := 65535

/-- `FRAME_MAX` (R6). -/
def frameMax : Nat := headerLen + payloadMax + csumLen

/-- The magic marker "AURA", a byte string and no integer (R54, R73). -/
def magicBytes : Bytes := [0x41, 0x55, 0x52, 0x41]

/-! ### Function codes (R74, R75) -/

/-- The named values of the `function` field (R74). -/
inductive FnName where
  /-- `REQ_WHOAMI` = 1 (R265) -/
  | reqWhoami
  /-- `RESP_WHOAMI` = 2 (R266) -/
  | respWhoami
  /-- `REQ_STATUS` = 3 (R267) -/
  | reqStatus
  /-- `RESP_STATUS` = 4 (R268) -/
  | respStatus
  /-- `REQ_WRITE_DATA` = 5 (R269) -/
  | reqWriteData
  /-- `RESP_WRITE_DATA` = 6 (R270) -/
  | respWriteData
  /-- `REQ_READ_DATA` = 7 (R271) -/
  | reqReadData
  /-- `RESP_READ_DATA` = 8 (R272) -/
  | respReadData
deriving DecidableEq, Repr

/-- The code of a named function (R74). -/
def FnName.code : FnName → U16
  | .reqWhoami => 1
  | .respWhoami => 2
  | .reqStatus => 3
  | .respStatus => 4
  | .reqWriteData => 5
  | .respWriteData => 6
  | .reqReadData => 7
  | .respReadData => 8

/-- `fn_name(v)`: defined for 1 to 8 only; no rule's condition uses it (R75). -/
def fnName (v : U16) : Option FnName :=
  match v.toNat with
  | 1 => some .reqWhoami
  | 2 => some .respWhoami
  | 3 => some .reqStatus
  | 4 => some .respStatus
  | 5 => some .reqWriteData
  | 6 => some .respWriteData
  | 7 => some .reqReadData
  | 8 => some .respReadData
  | _ => none

/-- The row of the table that a header with this function code belongs to (R93). -/
def FnName.row : FnName → U32 → U32 → U32 → U16 → Instr
  | .reqWhoami => .frameReqWhoami
  | .respWhoami => .frameRespWhoami
  | .reqStatus => .frameReqStatus
  | .respStatus => .frameRespStatus
  | .reqWriteData => .frameReqWriteData
  | .respWriteData => .frameRespWriteData
  | .reqReadData => .frameReqReadData
  | .respReadData => .frameRespReadData

/-! ### The tag space (R7, R82, R169) -/

/-- `TAGMAP⁻¹`: the tag of a variant. 0 and 21 are the source's (R7). -/
def TagMap.tagOf (m : TagMap) : DType → U8
  | .noneType => 0
  | .cardRange => 21
  | .i8 => m.i8
  | .u8 => m.u8
  | .i16 => m.i16
  | .u16 => m.u16
  | .i32 => m.i32
  | .u32 => m.u32
  | .f32 => m.f32
  | .f64 => m.f64
  | .string => m.string
  | .arrI8 => m.arrI8
  | .arrU8 => m.arrU8
  | .arrI16 => m.arrI16
  | .arrU16 => m.arrU16
  | .arrI32 => m.arrI32
  | .arrU32 => m.arrU32
  | .arrF32 => m.arrF32
  | .arrF64 => m.arrF64
  | .cardUid => m.cardUid
  | .arrCardUid => m.arrCardUid

/-- The 19 variants whose tag is the parameter's to say, in the order of R156. -/
def DType.unnumbered : List DType :=
  [.i8, .u8, .i16, .u16, .i32, .u32, .f32,
   .f64, .string, .arrI8, .arrU8, .arrI16, .arrU16, .arrI32,
   .arrU32, .arrF32, .arrF64, .cardUid, .arrCardUid]

/-- `dtype(tag) = TAGMAP(tag)`, a partial function (R7, R82, R169): 0 is NONE, 21 is CARD_RANGE, nothing
above 21 is assigned, and a tag in 1 to 20 that is no variant's is a reserved gap. -/
def TagMap.dtype (m : TagMap) (tag : U8) : Option DType :=
  if tag = 0 then some .noneType
  else if tag = 21 then some .cardRange
  else if 21 < tag.toNat then none
  else DType.unnumbered.find? fun d => m.tagOf d == tag

/-- The row of the table that a chunk header of this variant belongs to (R93). -/
def DType.row : DType → U8 → U16 → Instr
  | .noneType => .chunkNone
  | .i8 => .chunkI8
  | .u8 => .chunkU8
  | .i16 => .chunkI16
  | .u16 => .chunkU16
  | .i32 => .chunkI32
  | .u32 => .chunkU32
  | .f32 => .chunkF32
  | .f64 => .chunkF64
  | .string => .chunkString
  | .arrI8 => .chunkArrI8
  | .arrU8 => .chunkArrU8
  | .arrI16 => .chunkArrI16
  | .arrU16 => .chunkArrU16
  | .arrI32 => .chunkArrI32
  | .arrU32 => .chunkArrU32
  | .arrF32 => .chunkArrF32
  | .arrF64 => .chunkArrF64
  | .cardUid => .chunkCardUid
  | .arrCardUid => .chunkArrCardUid
  | .cardRange => .chunkCardRange

/-! ### The decoder -/

/-- Why a word is no row of the table. None of these stops the block: the RX unit takes every header byte
by byte, and `TLV.STEP` reports an unassigned tag (R75, R82, R88). -/
inductive DecodeError where
  /-- fewer bytes than the format is long -/
  | truncatedWord (present : Nat)
  /-- the four magic bytes differ from `41 55 52 41` (R73) -/
  | badMagic (magic : Bytes)
  /-- a `function` outside 1 to 8, legal but unnamed (R75) -/
  | unnamedFunction (fn : U16)
  /-- `TAGMAP` is undefined at the tag (R82) -/
  | unassignedTag (tag : U8)
  /-- operations have no bit encoding (R90) -/
  | noBinaryEncoding
deriving DecidableEq, Repr

/-- The frame-header row that stands at the front of `bs`, with the bytes after it (R70, R93). -/
def decodeHeaderWord (bs : Bytes) : Except DecodeError (Instr × Bytes) :=
  if bs.length < headerLen then .error (.truncatedWord bs.length)
  else if slice bs 0 4 ≠ magicBytes then .error (.badMagic (slice bs 0 4))
  else
    match fnName (field16 bs 16) with
    | none => .error (.unnamedFunction (field16 bs 16))
    | some f =>
      .ok (f.row (field32 bs 4) (field32 bs 8) (field32 bs 12) (field16 bs 18), bs.drop headerLen)

/-- The trailer at the front of `bs`: every 16-bit value is some frame's checksum (R71, R93). -/
def decodeTrailerWord (bs : Bytes) : Except DecodeError (Instr × Bytes) :=
  if bs.length < csumLen then .error (.truncatedWord bs.length)
  else .ok (.frameTrailer (field16 bs 0), bs.drop csumLen)

/-- The chunk-header row that stands at the front of `bs` (R80, R82, R93). -/
def decodeChunkWord (m : TagMap) (bs : Bytes) : Except DecodeError (Instr × Bytes) :=
  if bs.length < chunkHdrLen then .error (.truncatedWord bs.length)
  else
    match m.dtype (field8 bs 1) with
    | none => .error (.unassignedTag (field8 bs 1))
    | some d => .ok (d.row (field8 bs 0) (field16 bs 2), bs.drop chunkHdrLen)

/-- The decoder: the instruction whose word of format `f` stands at the front of `bs`, and the rest. -/
def decode (p : Params) (f : Format) (bs : Bytes) : Except DecodeError (Instr × Bytes) :=
  match f with
  | .fh => decodeHeaderWord bs
  | .ft => decodeTrailerWord bs
  | .ch => decodeChunkWord p.tags bs
  | .port => .error .noBinaryEncoding

/-- A port operation is selected by its port and name, no bits (R90). -/
def PortOp.toInstr : PortOp → Instr
  | .crcInit => .crcInit
  | .crcUpd b => .crcUpd b
  | .txEnc seq src dst fn payload => .txEnc seq src dst fn payload
  | .txReq dst fn payload => .txReq dst fn payload
  | .rxByte b => .rxByte b
  | .rxEob => .rxEob
  | .tlvLoad p => .tlvLoad p
  | .tlvStep => .tlvStep
  | .reset => .reset

/-- The port an operation arrives on (R12). -/
def PortOp.port : PortOp → Port
  | .crcInit => .crcCmd
  | .crcUpd _ => .crcCmd
  | .txEnc _ _ _ _ _ => .txCmd
  | .txReq _ _ _ => .txCmd
  | .rxByte _ => .rxIn
  | .rxEob => .rxEob
  | .tlvLoad _ => .tlvCmd
  | .tlvStep => .tlvCmd
  | .reset => .reset

/-! ### The encoder -/

/-- The format of an instruction's row. -/
def Instr.format : Instr → Format
  | .frameReqWhoami _ _ _ _ => .fh
  | .frameRespWhoami _ _ _ _ => .fh
  | .frameReqStatus _ _ _ _ => .fh
  | .frameRespStatus _ _ _ _ => .fh
  | .frameReqWriteData _ _ _ _ => .fh
  | .frameRespWriteData _ _ _ _ => .fh
  | .frameReqReadData _ _ _ _ => .fh
  | .frameRespReadData _ _ _ _ => .fh
  | .frameTrailer _ => .ft
  | .chunkNone _ _ => .ch
  | .chunkI8 _ _ => .ch
  | .chunkU8 _ _ => .ch
  | .chunkI16 _ _ => .ch
  | .chunkU16 _ _ => .ch
  | .chunkI32 _ _ => .ch
  | .chunkU32 _ _ => .ch
  | .chunkF32 _ _ => .ch
  | .chunkF64 _ _ => .ch
  | .chunkString _ _ => .ch
  | .chunkArrI8 _ _ => .ch
  | .chunkArrU8 _ _ => .ch
  | .chunkArrI16 _ _ => .ch
  | .chunkArrU16 _ _ => .ch
  | .chunkArrI32 _ _ => .ch
  | .chunkArrU32 _ _ => .ch
  | .chunkArrF32 _ _ => .ch
  | .chunkArrF64 _ _ => .ch
  | .chunkCardUid _ _ => .ch
  | .chunkArrCardUid _ _ => .ch
  | .chunkCardRange _ _ => .ch
  | .crcInit => .port
  | .crcUpd _ => .port
  | .txEnc _ _ _ _ _ => .port
  | .txReq _ _ _ => .port
  | .rxByte _ => .port
  | .rxEob => .port
  | .tlvLoad _ => .port
  | .tlvStep => .port
  | .reset => .port

/-- `enc_header(seq, src, dst, fn, len)` (R116). -/
def encHeader (seq src dst : U32) (fn len : U16) : Bytes :=
  magicBytes ++ le32 seq ++ le32 src ++ le32 dst ++ le16 fn ++ le16 len

/-- A chunk header's four bytes (R80). -/
def encChunkHeader (id tag : U8) (size : U16) : Bytes :=
  [id, tag] ++ le16 size

/-- The encoder: the bytes of an instruction's word. An operation has none (R90). -/
def encode (p : Params) : Instr → Bytes
  | .frameReqWhoami seq src dst plen => encHeader seq src dst (FnName.code .reqWhoami) plen
  | .frameRespWhoami seq src dst plen => encHeader seq src dst (FnName.code .respWhoami) plen
  | .frameReqStatus seq src dst plen => encHeader seq src dst (FnName.code .reqStatus) plen
  | .frameRespStatus seq src dst plen => encHeader seq src dst (FnName.code .respStatus) plen
  | .frameReqWriteData seq src dst plen => encHeader seq src dst (FnName.code .reqWriteData) plen
  | .frameRespWriteData seq src dst plen => encHeader seq src dst (FnName.code .respWriteData) plen
  | .frameReqReadData seq src dst plen => encHeader seq src dst (FnName.code .reqReadData) plen
  | .frameRespReadData seq src dst plen => encHeader seq src dst (FnName.code .respReadData) plen
  | .frameTrailer c => le16 c
  | .chunkNone id size => encChunkHeader id (p.tags.tagOf .noneType) size
  | .chunkI8 id size => encChunkHeader id (p.tags.tagOf .i8) size
  | .chunkU8 id size => encChunkHeader id (p.tags.tagOf .u8) size
  | .chunkI16 id size => encChunkHeader id (p.tags.tagOf .i16) size
  | .chunkU16 id size => encChunkHeader id (p.tags.tagOf .u16) size
  | .chunkI32 id size => encChunkHeader id (p.tags.tagOf .i32) size
  | .chunkU32 id size => encChunkHeader id (p.tags.tagOf .u32) size
  | .chunkF32 id size => encChunkHeader id (p.tags.tagOf .f32) size
  | .chunkF64 id size => encChunkHeader id (p.tags.tagOf .f64) size
  | .chunkString id size => encChunkHeader id (p.tags.tagOf .string) size
  | .chunkArrI8 id size => encChunkHeader id (p.tags.tagOf .arrI8) size
  | .chunkArrU8 id size => encChunkHeader id (p.tags.tagOf .arrU8) size
  | .chunkArrI16 id size => encChunkHeader id (p.tags.tagOf .arrI16) size
  | .chunkArrU16 id size => encChunkHeader id (p.tags.tagOf .arrU16) size
  | .chunkArrI32 id size => encChunkHeader id (p.tags.tagOf .arrI32) size
  | .chunkArrU32 id size => encChunkHeader id (p.tags.tagOf .arrU32) size
  | .chunkArrF32 id size => encChunkHeader id (p.tags.tagOf .arrF32) size
  | .chunkArrF64 id size => encChunkHeader id (p.tags.tagOf .arrF64) size
  | .chunkCardUid id size => encChunkHeader id (p.tags.tagOf .cardUid) size
  | .chunkArrCardUid id size => encChunkHeader id (p.tags.tagOf .arrCardUid) size
  | .chunkCardRange id size => encChunkHeader id (p.tags.tagOf .cardRange) size
  | .crcInit => []
  | .crcUpd _ => []
  | .txEnc _ _ _ _ _ => []
  | .txReq _ _ _ => []
  | .rxByte _ => []
  | .rxEob => []
  | .tlvLoad _ => []
  | .tlvStep => []
  | .reset => []

/-! ### Words as integers (R70, R80, R93) -/

/-- `H = LE(header, 0, 20)` (R70). -/
def headerInt (header : Bytes) : BitVec 160 :=
  BitVec.ofNat 160 (leAt header 0 20)

/-- `C = LE(chunk, 0, 4)` (R80). -/
def chunkInt (chunk : Bytes) : BitVec 32 :=
  BitVec.ofNat 32 (leAt chunk 0 4)

/-- The format of the table rows that are `nbits` wide. -/
def formatOfWidth (nbits : Nat) : Format :=
  match nbits with
  | 160 => .fh
  | 32 => .ch
  | 16 => .ft
  | _ => .port

/-- The instruction of the table word whose bits are `w`, under the parameters `p`. -/
def decodeWord (p : Params) (nbits w : Nat) : Option Instr :=
  match decode p (formatOfWidth nbits) (leBytes (nbits / 8) w) with
  | .ok (i, _) => some i
  | .error _ => none

/-- The host's question: the instruction the decoder reads from a word of opcode_table.json. The table
itself is written under `TAGMAP_REF` (R93), so that instance is used here. -/
def decodeTableWord (nbits w : Nat) : Option Instr :=
  decodeWord Config.referenceParams nbits w

end Sys2Proof
end

