-- ==== Sys2Proof/Machine/State.lean ====
section
/-! DEFINITION. The state of the block (10_state.md R20, R21), the records its output ports carry (R13,
60_exceptions.md R191 to R198), and the reset state (R40, R220). The block has no addressable memory
(R51): what stands in its place are the byte buffers `RX_HDR`, `RX_PAY` and `TLV_BUF`, byte sequences with
their bounds, held as lists so that equal sequences are equal data (notes/assumptions/3.md). -/

namespace Sys2Proof.Machine

/-- `RX_PHASE`: which part of a frame the next byte belongs to (R26). The value 3 of the two-bit field is
never taken and has no constructor. -/
inductive RxPhase where
  /-- one of the 20 header bytes (value 0) -/
  | hdr
  /-- one of the `payload_length` payload bytes (value 1) -/
  | pay
  /-- one of the 2 checksum bytes (value 2) -/
  | csum
deriving DecidableEq, Repr

/-- The header fields an event copies (R13): everything of the header but the magic. -/
structure HeaderFields where
  /-- `sequence` -/
  sequence : U32
  /-- `source_id` -/
  sourceId : U32
  /-- `dest_id` -/
  destId : U32
  /-- `function` -/
  function : U16
  /-- `payload_length` -/
  payloadLength : U16
deriving DecidableEq, Repr

/-- What `RX_EVT` carries (R13). -/
inductive RxEvent where
  /-- `Frame`: a well-formed frame -/
  | frame (h : HeaderFields) (payload : Bytes) (checksum : U16)
  /-- `RxErr` MalformedHeader (R191) -/
  | malformedHeader (got : Nat)
  /-- `RxErr` ChecksumMismatch (R192) -/
  | checksumMismatch (h : HeaderFields) (rxChecksum calcChecksum : U16)
  /-- `RxErr` BadMagic (R194) -/
  | badMagic (magic : Bytes) (h : HeaderFields) (rxChecksum calcChecksum : U16)
  /-- `RxErr` TruncatedFrame (R195) -/
  | truncatedFrame (magic : Bytes) (h : HeaderFields) (got want : Nat)
deriving DecidableEq, Repr

/-- What `TLV_EVT` carries (R13). -/
inductive TlvEvent where
  /-- `Chunk`: a chunk decoded without error -/
  | chunk (off : Nat) (id tag : U8) (size : U16) (dtype : DType) (raw : Bytes) (elems : List Bytes)
  /-- `TlvErr` UnknownDataType (R193) -/
  | unknownDataType (off : Nat) (id tag : U8) (size : U16)
  /-- `TlvErr` TruncatedChunk with `part = header` (R196) -/
  | truncatedHeader (off present : Nat)
  /-- `TlvErr` TruncatedChunk with `part = value` (R196) -/
  | truncatedValue (off : Nat) (id tag : U8) (size : U16) (present : Nat)
  /-- `TlvErr` SizeMismatch (R197) -/
  | sizeMismatch (off : Nat) (id tag : U8) (size : U16) (dtype : DType) (width : Nat)
deriving DecidableEq, Repr

/-- What `TX_EVT` carries (R13). -/
inductive TxEvent where
  /-- `TxErr` PayloadTooLong (R198) -/
  | payloadTooLong (len : Nat)
deriving DecidableEq, Repr

/-- One emission on an output port (R12). -/
inductive Output where
  /-- the bytes of one frame on `TX_OUT`, one contiguous run (R124) -/
  | txOut (bytes : Bytes)
  /-- an event on `TX_EVT` -/
  | txEvt (e : TxEvent)
  /-- an event on `RX_EVT` -/
  | rxEvt (e : RxEvent)
  /-- an event on `TLV_EVT` -/
  | tlvEvt (e : TlvEvent)
deriving DecidableEq, Repr

/-- What the host has issued and the block has not yet taken: an operation at a port, or the bytes that one
`read` of the transport returned, which are one `RX.BYTE` each (R50, R92 `RX.BYTES`). -/
inductive Issue where
  /-- an operation at its port -/
  | op (o : PortOp)
  /-- bytes delivered at `RX_IN`, first byte first -/
  | read (bs : Bytes)
deriving DecidableEq, Repr

/-- The eleven state elements S0 to S10 of R21, and three fields of the model's own: the parameters, the
operations still to come and what has been emitted (R22 says these are no state of the block). -/
structure State where
  /-- S0 `CRC` (R23) -/
  crc : U16
  /-- S1 `SEQ` (R24) -/
  seq : U32
  /-- S2 `CTRL_ID`, constant (R25) -/
  ctrlId : U32
  /-- S3 `RX_PHASE` (R26) -/
  rxPhase : RxPhase
  /-- S4 `RX_HDR`, length 0 to 20 (R27) -/
  rxHdr : Bytes
  /-- S5 `RX_PAY`, length 0 to 65535 (R28) -/
  rxPay : Bytes
  /-- S6 `RX_CS0` (R29) -/
  rxCs0 : Option U8
  /-- S7 `RX_CRC` (R30) -/
  rxCrc : U16
  /-- S8 `TLV_BUF`, length 0 to 65535 (R33) -/
  tlvBuf : Bytes
  /-- S9 `TLV_CUR`, 0 to 65535 and never past `TLV_LEN` (R34) -/
  tlvCur : Nat
  /-- S10 `TLV_ACTIVE` (R35) -/
  tlvActive : Bool
  /-- the model's: the parameters of R7, fixed at instantiation -/
  params : Params
  /-- the model's: what the host has issued and the block has not taken, oldest first -/
  pending : List Issue
  /-- the model's: every emission so far, oldest first, across the ports in the order of R61 -/
  trace : List Output
deriving DecidableEq, Repr

/-- The reasons the machine stops with a fault: none. "No operation has undefined, unpredictable or
implementation-defined behaviour once the parameters of rule R7 are fixed" (R10), so the type is empty and
no step raises one: safe. -/
inductive Fault where
deriving DecidableEq, Repr

/-- The reasons an instruction is refused. -/
inductive Refusal where
  /-- Raised by an arm of `exec` whose instruction has no meaning yet: no arm does. Safe: the model stops. -/
  | notModelled (mnemonic : String)
deriving DecidableEq, Repr

/-- The state after `RESET`, or at power-on, of a block instantiated with the parameters `p` (R21, R40,
R220), with nothing issued and nothing emitted. -/
def State.powerOn (p : Params) : State where
  crc := 0xFFFF
  seq := 0
  ctrlId := p.controllerId
  rxPhase := .hdr
  rxHdr := []
  rxPay := []
  rxCs0 := none
  rxCrc := 0xFFFF
  tlvBuf := []
  tlvCur := 0
  tlvActive := false
  params := p
  pending := []
  trace := []

/-- The reset state. The host asks for one closed term, so the open parameters take the
placeholder values of the spec's test vectors. DESIGN CHOICE (notes/assumptions/1.md, 2.md), unsafe for a
claim about this one state; claims are made over every state, or over `State.powerOn p` for every `p`. -/
def State.reset : State :=
  State.powerOn Config.referenceParams

end Sys2Proof.Machine
end

