-- ==== Sys2Proof/Machine/Operands.lean ====
section
/-! DEFINITION. Operand forms: the data-type machinery of 43_chunk_tlv.md (R156 to R166), the widenings of
R9, and the field views the host can read (R27, R31, R33, R35, R36). The block has one addressing mode, a
constant offset from the start of a header (R144). -/

namespace Sys2Proof.Machine

/-! ### Widening (R9) -/

/-- `zext_N(v)` (R9). -/
def zext {w : Nat} (n : Nat) (v : BitVec w) : BitVec n :=
  BitVec.ofNat n v.toNat

/-- `sint_W(v)`: the signed integer a `W`-bit pattern stands for (R9). -/
def sint (w v : Nat) : Int :=
  if 2 ^ (w - 1) ≤ v then (v : Int) - 2 ^ w else v

/-- `sext_N(v)` of a `W`-bit pattern (R9). -/
def sext {w : Nat} (n : Nat) (v : BitVec w) : BitVec n :=
  if v.msb then BitVec.ofNat n (v.toNat + 2 ^ n - 2 ^ w) else BitVec.ofNat n v.toNat

/-! ### Buffer primitives (R9) -/

/-- `MemRead(B, off, n)` (R9, R144). -/
def memRead (buf : Bytes) (off n : Nat) : Nat :=
  leAt buf off n

/-- `MemWrite(B, off, n, v)` (R9): the bytes `le_n(v)` at `off .. off+n-1`. No operation of the block uses it:
buffers grow by appending and are replaced whole. -/
def memWrite (buf : Bytes) (off n v : Nat) : Bytes :=
  buf.take off ++ leBytes n v ++ buf.drop (off + n)

/-! ### Data types (R156) -/

/-- Which size rule applies to a variant (R156, R157). -/
inductive Kind where
  /-- `size` is the width exactly, or 0 -/
  | scalar
  /-- `size` is a multiple of the width -/
  | array
deriving DecidableEq, Repr

/-- How one element is read (R156). -/
inductive Reading where
  /-- no value -/
  | noValue
  /-- signed integer (R161) -/
  | signed
  /-- unsigned integer (R162) -/
  | unsigned
  /-- float bit pattern (R163) -/
  | pattern
  /-- bytes (R164, R165) -/
  | bytes
  /-- pair of two u8 (R166) -/
  | pair
deriving DecidableEq, Repr

/-- The column `kind` of R156. -/
def dtypeKind : DType → Kind
  | .noneType => .scalar
  | .i8 => .scalar
  | .u8 => .scalar
  | .i16 => .scalar
  | .u16 => .scalar
  | .i32 => .scalar
  | .u32 => .scalar
  | .f32 => .scalar
  | .f64 => .scalar
  | .string => .array
  | .arrI8 => .array
  | .arrU8 => .array
  | .arrI16 => .array
  | .arrU16 => .array
  | .arrI32 => .array
  | .arrU32 => .array
  | .arrF32 => .array
  | .arrF64 => .array
  | .cardUid => .scalar
  | .arrCardUid => .array
  | .cardRange => .scalar

/-- The column `W` of R156, the element width in bytes. -/
def dtypeWidth : DType → Nat
  | .noneType => 0
  | .i8 => 1
  | .u8 => 1
  | .i16 => 2
  | .u16 => 2
  | .i32 => 4
  | .u32 => 4
  | .f32 => 4
  | .f64 => 8
  | .string => 1
  | .arrI8 => 1
  | .arrU8 => 1
  | .arrI16 => 2
  | .arrU16 => 2
  | .arrI32 => 4
  | .arrU32 => 4
  | .arrF32 => 4
  | .arrF64 => 8
  | .cardUid => 8
  | .arrCardUid => 8
  | .cardRange => 2

/-- The column `reading` of R156. -/
def dtypeReading : DType → Reading
  | .noneType => .noValue
  | .i8 => .signed
  | .u8 => .unsigned
  | .i16 => .signed
  | .u16 => .unsigned
  | .i32 => .signed
  | .u32 => .unsigned
  | .f32 => .pattern
  | .f64 => .pattern
  | .string => .bytes
  | .arrI8 => .signed
  | .arrU8 => .unsigned
  | .arrI16 => .signed
  | .arrU16 => .unsigned
  | .arrI32 => .signed
  | .arrU32 => .unsigned
  | .arrF32 => .pattern
  | .arrF64 => .pattern
  | .cardUid => .bytes
  | .arrCardUid => .bytes
  | .cardRange => .pair

/-- `count(dt, size)` (R158). -/
def elemCount (d : DType) (size : Nat) : Nat :=
  if dtypeWidth d = 0 ∨ size = 0 then 0 else size / dtypeWidth d

/-- The first `n` consecutive slices of `w` bytes. -/
def slices (w : Nat) : Nat → Bytes → List Bytes
  | 0, _ => []
  | n + 1, bs => bs.take w :: slices w n (bs.drop w)

/-- `elems` of a chunk (R160): slice `i` is `raw[i*W .. (i+1)*W)`. -/
def elems (d : DType) (raw : Bytes) : List Bytes :=
  slices (dtypeWidth d) (elemCount d raw.length) raw

/-- What an element stands for, once a consumer applies the variant's reading (R161 to R166). The block
delivers bytes; no meaning of an instruction uses this. -/
inductive ElemValue where
  /-- a `NONE` chunk has no elements, so nothing is read -/
  | noValue
  /-- a signed or an unsigned integer -/
  | int (v : Int)
  /-- a float bit pattern of `8 * width` bits -/
  | pattern (width v : Nat)
  /-- bytes in wire order -/
  | bytes (bs : Bytes)
  /-- a range pair (R166) -/
  | pair (offset count : U8)
deriving DecidableEq, Repr

/-- The reading of one element of a variant (R161 to R166). Two's complement is PRESUMED by the spec
(93_implementation_defined.md G3). -/
def readElem (d : DType) (e : Bytes) : ElemValue :=
  match dtypeReading d with
  | .noValue => .noValue
  | .signed => .int (sint (8 * dtypeWidth d) (leAt e 0 (dtypeWidth d)))
  | .unsigned => .int (leAt e 0 (dtypeWidth d))
  | .pattern => .pattern (dtypeWidth d) (leAt e 0 (dtypeWidth d))
  | .bytes => .bytes e
  | .pair => .pair (field8 e 0) (field8 e 1)

/-- The 64-bit reading of a card identifier (R165). -/
def cardUidInt (e : Bytes) : Nat :=
  leAt e 0 8

/-! ### Headers (R27, R131) -/

/-- The fields of 20 header bytes (R27, R131); the magic is `slice raw 0 4`. -/
def headerFields (raw : Bytes) : HeaderFields where
  sequence := field32 raw 4
  sourceId := field32 raw 8
  destId := field32 raw 12
  function := field16 raw 16
  payloadLength := field16 raw 18

/-! ### Views of the state (R27, R31, R33, R35, R36) -/

/-- `RX_PHASE` as its two bits (R26). -/
def RxPhase.code : RxPhase → BitVec 2
  | .hdr => 0
  | .pay => 1
  | .csum => 2

/-- `RX_MAGIC` (R27). -/
def State.rxMagic (s : State) : Bytes := slice s.rxHdr 0 4

/-- `RX_SEQ` (R27). -/
def State.rxSeq (s : State) : U32 := field32 s.rxHdr 4

/-- `RX_SRC` (R27). -/
def State.rxSrc (s : State) : U32 := field32 s.rxHdr 8

/-- `RX_DST` (R27). -/
def State.rxDst (s : State) : U32 := field32 s.rxHdr 12

/-- `RX_FN` (R27). -/
def State.rxFn (s : State) : U16 := field16 s.rxHdr 16

/-- `RX_PLEN` (R27). -/
def State.rxPlen (s : State) : U16 := field16 s.rxHdr 18

/-- `RX_CNT`, the fine part of the RX cursor (R31). -/
def State.rxCnt (s : State) : Nat :=
  match s.rxPhase with
  | .hdr => s.rxHdr.length
  | .pay => s.rxPay.length
  | .csum => if s.rxCs0 = none then 0 else 1

/-- The frame offset of the next byte to arrive (R31). -/
def State.rxOffset (s : State) : Nat :=
  match s.rxPhase with
  | .hdr => s.rxCnt
  | .pay => 20 + s.rxCnt
  | .csum => 20 + s.rxPlen.toNat + s.rxCnt

/-- `TLV_LEN` (R33). -/
def State.tlvLen (s : State) : Nat := s.tlvBuf.length

/-- `TLV_STOP` (R35). -/
def State.tlvStop (s : State) : Bool := !s.tlvActive && decide (s.tlvCur < s.tlvLen)

/-- `CH_ID` (R36). -/
def State.chId (s : State) : U8 := field8 s.tlvBuf s.tlvCur

/-- `CH_TAG` (R36). -/
def State.chTag (s : State) : U8 := field8 s.tlvBuf (s.tlvCur + 1)

/-- `CH_SIZE` (R36). -/
def State.chSize (s : State) : U16 := field16 s.tlvBuf (s.tlvCur + 2)

/-! ### Views of the output ports (R12, R61) -/

/-- The bytes on `TX_OUT`, in stream order. -/
def txOutOf (t : List Output) : Bytes :=
  t.flatMap fun
    | .txOut bs => bs
    | _ => []

/-- The events on `TX_EVT`, in order. -/
def txEvtOf (t : List Output) : List TxEvent :=
  t.filterMap fun
    | .txEvt e => some e
    | _ => none

/-- The events on `RX_EVT`, in order. -/
def rxEvtOf (t : List Output) : List RxEvent :=
  t.filterMap fun
    | .rxEvt e => some e
    | _ => none

/-- The events on `TLV_EVT`, in order. -/
def tlvEvtOf (t : List Output) : List TlvEvent :=
  t.filterMap fun
    | .tlvEvt e => some e
    | _ => none

end Sys2Proof.Machine
end

