-- ==== Sys2Proof/Machine/Flags.lean ====
section
/-! DEFINITION. Conditions. The block has no flag register, no condition codes and no sticky error bit
(10_state.md R37); this file holds the conditions whose outcome leaves the block inside events, and the
numbers of the errors (60_exceptions.md R206). -/

namespace Sys2Proof.Machine

/-- Whether the four magic bytes are exactly `41 55 52 41` (R73, R133). -/
def magicOk (magic : Bytes) : Bool :=
  magic == magicBytes

/-- `size_ok(dt, size)` (R157): 0 is legal for every variant (R159). -/
def sizeOk (d : DType) (size : Nat) : Bool :=
  size == 0 ||
    match dtypeKind d with
    | .scalar => size == dtypeWidth d
    | .array => size % dtypeWidth d == 0

/-- The named error conditions, those the block never raises included (R190, R206). -/
inductive ErrorCode where
  /-- the value of "no error" -/
  | noError
  /-- source §4.2, §7 -/
  | malformedHeader
  /-- source §4.2, §7 -/
  | checksumMismatch
  /-- source §4.3, §7 -/
  | unknownDataType
  /-- source §7; arises in software above the block and is never raised by it (R199) -/
  | unknownDeviceType
  /-- the spec's (D24) -/
  | badMagic
  /-- the spec's (D25) -/
  | truncatedFrame
  /-- the spec's (D26) -/
  | truncatedChunk
  /-- the spec's (D26) -/
  | sizeMismatch
  /-- the spec's (D23) -/
  | payloadTooLong
deriving DecidableEq, Repr

/-- The numbers of R206; they never travel on the wire and nothing tests them. -/
def ErrorCode.number : ErrorCode → Nat
  | .noError => 0
  | .malformedHeader => 1
  | .checksumMismatch => 2
  | .unknownDataType => 3
  | .unknownDeviceType => 4
  | .badMagic => 5
  | .truncatedFrame => 6
  | .truncatedChunk => 7
  | .sizeMismatch => 8
  | .payloadTooLong => 9

/-- The code an emission carries; `noError` for a frame, a chunk or sent bytes (R206). -/
def Output.code : Output → ErrorCode
  | .txOut _ => .noError
  | .txEvt (.payloadTooLong _) => .payloadTooLong
  | .rxEvt (.frame _ _ _) => .noError
  | .rxEvt (.malformedHeader _) => .malformedHeader
  | .rxEvt (.checksumMismatch _ _ _) => .checksumMismatch
  | .rxEvt (.badMagic _ _ _ _) => .badMagic
  | .rxEvt (.truncatedFrame _ _ _ _) => .truncatedFrame
  | .tlvEvt (.chunk _ _ _ _ _ _ _) => .noError
  | .tlvEvt (.unknownDataType _ _ _ _) => .unknownDataType
  | .tlvEvt (.truncatedHeader _ _) => .truncatedChunk
  | .tlvEvt (.truncatedValue _ _ _ _ _) => .truncatedChunk
  | .tlvEvt (.sizeMismatch _ _ _ _ _ _) => .sizeMismatch

end Sys2Proof.Machine
end

