-- ==== Sys2Proof/Machine/Checksum.lean ====
section
/-! DEFINITION. The checksum as a function (40_checksum.md R100 to R104): the working form the units
compute with, and the definitional most-significant-bit-first form it equals. -/

namespace Sys2Proof.Machine

/-- One shift of the working form: the polynomial `0xA001 = rev16(0x8005)` (R101). -/
def crcShift (r : U16) : U16 :=
  if r.getLsbD 0 then (r >>> 1) ^^^ 0xA001#16 else r >>> 1

/-- `n` shifts. -/
def crcShifts : Nat → U16 → U16
  | 0, r => r
  | n + 1, r => crcShifts n (crcShift r)

/-- `crc_upd(r, b)` (R101). -/
def crcUpd (r : U16) (b : U8) : U16 :=
  crcShifts 8 (r ^^^ b.setWidth 16)

/-- `crc_fold(r, s)` (R102). -/
def crcFold (r : U16) : Bytes → U16
  | [] => r
  | b :: t => crcFold (crcUpd r b) t

/-- `crc16(s)` (R101). -/
def crc16 (s : Bytes) : U16 :=
  crcFold 0xFFFF s

/-- The lowest `n` bits of `v` in reverse order. -/
def revNat : Nat → Nat → Nat
  | 0, _ => 0
  | n + 1, v => (v % 2) * 2 ^ n + revNat n (v / 2)

/-- `rev8` (R9). -/
def rev8 (v : U8) : U8 := BitVec.ofNat 8 (revNat 8 v.toNat)

/-- `rev16` (R9). -/
def rev16 (v : U16) : U16 := BitVec.ofNat 16 (revNat 16 v.toNat)

/-- One shift of the definitional form: the polynomial `0x8005` (R100). -/
def crcDefShift (r : U16) : U16 :=
  if r.getLsbD 15 then (r <<< 1) ^^^ 0x8005#16 else r <<< 1

/-- `n` shifts of the definitional form. -/
def crcDefShifts : Nat → U16 → U16
  | 0, r => r
  | n + 1, r => crcDefShifts n (crcDefShift r)

/-- The loop of `crc16_def` (R100). -/
def crcDefLoop (r : U16) : Bytes → U16
  | [] => r
  | b :: t => crcDefLoop (crcDefShifts 8 (r ^^^ ((rev8 b).setWidth 16 <<< 8))) t

/-- `crc16_def(s)`, the definition of the checksum (R100). -/
def crc16Def (s : Bytes) : U16 :=
  rev16 (crcDefLoop 0xFFFF s)

/-- The table `T[i] = crc_upd(0, i)` (R104). -/
def crcTable (i : U8) : U16 :=
  crcUpd 0 i

/-- The table form of `crc_upd` (R104). -/
def crcUpdByTable (r : U16) (b : U8) : U16 :=
  (r >>> 8) ^^^ crcTable ((r ^^^ b.setWidth 16).setWidth 8)

end Sys2Proof.Machine
end

