-- ==== Sys2Proof/Machine/Ops.lean ====
section
/-! DEFINITION. The named operations over the state: every write of a state element, emission on a port,
and raising an error. An operation of one unit writes that unit's elements alone (10_state.md R20). -/

namespace Sys2Proof.Machine

/-- `emit(PORT, x)`: after everything emitted earlier (R9, R61). -/
def emit (o : Output) (s : State) : State :=
  { s with trace := s.trace ++ [o] }

/-- `CRC <- v`. -/
def setCrc (v : U16) (s : State) : State :=
  { s with crc := v }

/-- `SEQ <- v`. -/
def setSeq (v : U32) (s : State) : State :=
  { s with seq := v }

/-- The empty RX state: `RX_PHASE <- HDR; RX_HDR <- []; RX_PAY <- []; RX_CS0 <- none; RX_CRC <- 0xFFFF`
(R137, R138, R202). -/
def rxClear (s : State) : State :=
  { s with rxPhase := .hdr, rxHdr := [], rxPay := [], rxCs0 := none, rxCrc := 0xFFFF }

/-- The phase that follows a complete header (R135, R136). -/
def phaseAfterHeader (h : Bytes) : RxPhase :=
  if field16 h 18 = 0 then .csum else .pay

/-- A header byte arrives (R135, case `HDR`). -/
def rxPutHeader (b : U8) (s : State) : State :=
  { s with
    rxHdr := s.rxHdr ++ [b]
    rxCrc := crcUpd s.rxCrc b
    rxPhase := if (s.rxHdr ++ [b]).length = headerLen then phaseAfterHeader (s.rxHdr ++ [b]) else s.rxPhase }

/-- A payload byte arrives (R135, case `PAY`). -/
def rxPutPayload (b : U8) (s : State) : State :=
  { s with
    rxPay := s.rxPay ++ [b]
    rxCrc := crcUpd s.rxCrc b
    rxPhase := if (s.rxPay ++ [b]).length = s.rxPlen.toNat then .csum else s.rxPhase }

/-- The low checksum byte arrives (R135, case `CSUM`); it is not folded into `RX_CRC`. -/
def rxHoldLow (b : U8) (s : State) : State :=
  { s with rxCs0 := some b }

/-- `TLV.LOAD`'s writes (R170). -/
def tlvFill (p : Bytes) (s : State) : State :=
  { s with tlvBuf := p, tlvCur := 0, tlvActive := decide (0 < p.length) }

/-- The cursor steps over a chunk of `size` value bytes (R171, R203). -/
def tlvAdvance (size : Nat) (s : State) : State :=
  { s with
    tlvCur := s.tlvCur + 4 + size
    tlvActive := decide (s.tlvCur + 4 + size < s.tlvBuf.length) }

/-- A truncated chunk ends the payload: `TLV_ACTIVE <- false`, the cursor stays (R171, R203). -/
def tlvHalt (s : State) : State :=
  { s with tlvActive := false }

/-- The host's queue after the block took something from it. -/
def setPending (q : List Issue) (s : State) : State :=
  { s with pending := q }

/-- Error entry by unit (R201 to R203). TX: no state changes. RX: the unit is emptied, as after a
well-formed frame. TLV: a truncated chunk halts, any other error steps over the chunk just as a good chunk
of the same `size` does. -/
def errorEntry (o : Output) (s : State) : State :=
  match o with
  | .txOut _ => s
  | .txEvt _ => s
  | .rxEvt _ => rxClear s
  | .tlvEvt (.truncatedHeader _ _) => tlvHalt s
  | .tlvEvt (.truncatedValue _ _ _ _ _) => tlvHalt s
  | .tlvEvt (.unknownDataType _ _ _ size) => tlvAdvance size.toNat s
  | .tlvEvt (.sizeMismatch _ _ _ size _ _) => tlvAdvance size.toNat s
  | .tlvEvt (.chunk _ _ _ size _ _ _) => tlvAdvance size.toNat s

/-- `raise E(info)`, taking an exception in this block (R9, R200): the event goes out on the unit's port,
then the unit's entry rule applies. Nothing is saved, no handler runs, and there is no return operation,
because the unit is already in the state from which normal work continues (R205). -/
def raiseError (o : Output) (s : State) : State :=
  errorEntry o (emit o s)

/-- `RESET`'s writes (R40, R220): every one of the eleven elements. The parameters are no reset state
(R222), nothing emitted is withdrawn, and what the host has issued after the `RESET` stands. -/
def resetElements (s : State) : State :=
  { State.powerOn s.params with pending := s.pending, trace := s.trace }

/-- The three byte buffers within their sizes (R21, R59): what stands in place of a memory's canonical
form, since equal byte sequences are equal data (notes/assumptions/3.md). -/
def Memory.wf (s : State) : Bool :=
  decide (s.rxHdr.length ≤ 20) && decide (s.rxPay.length ≤ 65535) && decide (s.tlvBuf.length ≤ 65535)

end Sys2Proof.Machine
end

