-- ==== Sys2Proof/Machine/TlvUnit.lean ====
section
/-! DEFINITION. The chunk decoder (43_chunk_tlv.md): the step R171, the function `decode_chunks` R172, the
reference inverse `encode_chunks` R178, and the TLV unit's two operations. -/

namespace Sys2Proof.Machine

/-- The verdict on a chunk that lies wholly inside the payload `p` at offset `c` (R171, R172). -/
def chunkEvent (p : Bytes) (c : Nat) (id tag : U8) (size : U16) (d : Option DType) : TlvEvent :=
  match d with
  | none => .unknownDataType c id tag size
  | some d =>
    if sizeOk d size.toNat then
      .chunk c id tag size d (slice p (c + 4) (c + 4 + size.toNat)) (elems d (slice p (c + 4) (c + 4 + size.toNat)))
    else .sizeMismatch c id tag size d (dtypeWidth d)

/-- `TLV.STEP` once the chunk header at the cursor reads `id`, `tag`, `size` and the tag stands for the
variant `d`: what R171 does, in its order of tests, on an active unit, and nothing on an inactive one
(R174). -/
def tlvTake (id tag : U8) (size : U16) (d : Option DType) (s : State) : State :=
  if s.tlvActive then
    if s.tlvLen - s.tlvCur < 4 then
      raiseError (.tlvEvt (.truncatedHeader s.tlvCur (s.tlvLen - s.tlvCur))) s
    else if s.tlvLen - s.tlvCur - 4 < size.toNat then
      raiseError (.tlvEvt (.truncatedValue s.tlvCur id tag size (s.tlvLen - s.tlvCur - 4))) s
    else raiseError (.tlvEvt (chunkEvent s.tlvBuf s.tlvCur id tag size d)) s
  else s

/-- The chunk row of variant `d` at the cursor (44_data_types.md R240 to R260): its tag is `TAGMAP⁻¹(d)`. -/
def tlvRow (d : DType) (id : U8) (size : U16) (s : State) : State :=
  tlvTake id (s.params.tags.tagOf d) size (some d) s

/-- `decode_chunks` from offset `c`, on at most `n` chunks (R172, `dc`). -/
def decodeChunksFrom (m : TagMap) (p : Bytes) : Nat → Nat → List TlvEvent
  | 0, _ => []
  | n + 1, c =>
    if c = p.length then []
    else if p.length - c < 4 then [.truncatedHeader c (p.length - c)]
    else if p.length - c - 4 < (field16 p (c + 2)).toNat then
      [.truncatedValue c (field8 p c) (field8 p (c + 1)) (field16 p (c + 2)) (p.length - c - 4)]
    else
      chunkEvent p c (field8 p c) (field8 p (c + 1)) (field16 p (c + 2)) (m.dtype (field8 p (c + 1)))
        :: decodeChunksFrom m p n (c + 4 + (field16 p (c + 2)).toNat)

/-- `decode_chunks(p)` (R172); a payload holds fewer chunks than bytes. -/
def decodeChunks (m : TagMap) (p : Bytes) : List TlvEvent :=
  decodeChunksFrom m p (p.length + 1) 0

/-- `enc_chunk(id, tag, raw)` (R178), used only where `|raw| ≤ 65535`. -/
def encChunk (id tag : U8) (raw : Bytes) : Bytes :=
  encChunkHeader id tag (BitVec.ofNat 16 raw.length) ++ raw

/-- `encode_chunks` on triples `(id, tag, raw)` (R178). A reference function: encoding chunks is no
operation of the block (R4 (f)). -/
def encodeChunks (ks : List (U8 × U8 × Bytes)) : Bytes :=
  ks.flatMap fun k => encChunk k.1 k.2.1 k.2.2

/-- The value bytes of one element (R178): an integer or a pattern as `le_W`, a signed value `v < 0` first
written as `v + 2^(8W)`; bytes in order; `[offset, count]` for a range pair. -/
def encElem (d : DType) (v : ElemValue) : Bytes :=
  match v with
  | .noValue => []
  | .int v => leBytes (dtypeWidth d) (v % 2 ^ (8 * dtypeWidth d)).toNat
  | .pattern _ v => leBytes (dtypeWidth d) v
  | .bytes bs => bs
  | .pair offset count => [offset, count]

/-- The value bytes of a chunk given as elements (R178). -/
def encValue (d : DType) (vs : List ElemValue) : Bytes :=
  vs.flatMap (encElem d)

/-- `TLV.LOAD p` (R170). -/
def execTlvLoad (p : Payload) (s : State) : Host.Outcome State Fault Refusal :=
  .next (tlvFill p.bytes s)

/-- `TLV.STEP` (R171): the header is read at the cursor and the tag classified by `TAGMAP` (R169). -/
def execTlvStep (s : State) : Host.Outcome State Fault Refusal :=
  .next (tlvTake s.chId s.chTag s.chSize (s.params.tags.dtype s.chTag) s)

end Sys2Proof.Machine
end

