-- ==== Sys2Proof/Machine/ChunkWords.lean ====
section
/-! DEFINITION. The chunk headers as instructions (R5): the 21 rows of 44_data_types.md R240 to R260. Each
is what `TLV.STEP` does when the chunk at the cursor has this header; the value bytes follow the header in
`TLV_BUF` and are no part of the word (R80). -/

namespace Sys2Proof.Machine

/-- `CHUNK.NONE` (R240). -/
def execChunkNone (id : U8) (size : U16) (s : State) : Host.Outcome State Fault Refusal :=
  .next (tlvRow .noneType id size s)

/-- `CHUNK.I8` (R241). -/
def execChunkI8 (id : U8) (size : U16) (s : State) : Host.Outcome State Fault Refusal :=
  .next (tlvRow .i8 id size s)

/-- `CHUNK.U8` (R242). -/
def execChunkU8 (id : U8) (size : U16) (s : State) : Host.Outcome State Fault Refusal :=
  .next (tlvRow .u8 id size s)

/-- `CHUNK.I16` (R243). -/
def execChunkI16 (id : U8) (size : U16) (s : State) : Host.Outcome State Fault Refusal :=
  .next (tlvRow .i16 id size s)

/-- `CHUNK.U16` (R244). -/
def execChunkU16 (id : U8) (size : U16) (s : State) : Host.Outcome State Fault Refusal :=
  .next (tlvRow .u16 id size s)

/-- `CHUNK.I32` (R245). -/
def execChunkI32 (id : U8) (size : U16) (s : State) : Host.Outcome State Fault Refusal :=
  .next (tlvRow .i32 id size s)

/-- `CHUNK.U32` (R246). -/
def execChunkU32 (id : U8) (size : U16) (s : State) : Host.Outcome State Fault Refusal :=
  .next (tlvRow .u32 id size s)

/-- `CHUNK.F32` (R247). -/
def execChunkF32 (id : U8) (size : U16) (s : State) : Host.Outcome State Fault Refusal :=
  .next (tlvRow .f32 id size s)

/-- `CHUNK.F64` (R248). -/
def execChunkF64 (id : U8) (size : U16) (s : State) : Host.Outcome State Fault Refusal :=
  .next (tlvRow .f64 id size s)

/-- `CHUNK.STRING` (R249). -/
def execChunkString (id : U8) (size : U16) (s : State) : Host.Outcome State Fault Refusal :=
  .next (tlvRow .string id size s)

/-- `CHUNK.ARR_I8` (R250). -/
def execChunkArrI8 (id : U8) (size : U16) (s : State) : Host.Outcome State Fault Refusal :=
  .next (tlvRow .arrI8 id size s)

/-- `CHUNK.ARR_U8` (R251). -/
def execChunkArrU8 (id : U8) (size : U16) (s : State) : Host.Outcome State Fault Refusal :=
  .next (tlvRow .arrU8 id size s)

/-- `CHUNK.ARR_I16` (R252). -/
def execChunkArrI16 (id : U8) (size : U16) (s : State) : Host.Outcome State Fault Refusal :=
  .next (tlvRow .arrI16 id size s)

/-- `CHUNK.ARR_U16` (R253). -/
def execChunkArrU16 (id : U8) (size : U16) (s : State) : Host.Outcome State Fault Refusal :=
  .next (tlvRow .arrU16 id size s)

/-- `CHUNK.ARR_I32` (R254). -/
def execChunkArrI32 (id : U8) (size : U16) (s : State) : Host.Outcome State Fault Refusal :=
  .next (tlvRow .arrI32 id size s)

/-- `CHUNK.ARR_U32` (R255). -/
def execChunkArrU32 (id : U8) (size : U16) (s : State) : Host.Outcome State Fault Refusal :=
  .next (tlvRow .arrU32 id size s)

/-- `CHUNK.ARR_F32` (R256). -/
def execChunkArrF32 (id : U8) (size : U16) (s : State) : Host.Outcome State Fault Refusal :=
  .next (tlvRow .arrF32 id size s)

/-- `CHUNK.ARR_F64` (R257). -/
def execChunkArrF64 (id : U8) (size : U16) (s : State) : Host.Outcome State Fault Refusal :=
  .next (tlvRow .arrF64 id size s)

/-- `CHUNK.CARD_UID` (R258). -/
def execChunkCardUid (id : U8) (size : U16) (s : State) : Host.Outcome State Fault Refusal :=
  .next (tlvRow .cardUid id size s)

/-- `CHUNK.ARR_CARD_UID` (R259). -/
def execChunkArrCardUid (id : U8) (size : U16) (s : State) : Host.Outcome State Fault Refusal :=
  .next (tlvRow .arrCardUid id size s)

/-- `CHUNK.CARD_RANGE` (R260). -/
def execChunkCardRange (id : U8) (size : U16) (s : State) : Host.Outcome State Fault Refusal :=
  .next (tlvRow .cardRange id size s)

end Sys2Proof.Machine
end

