-- ==== Sys2Proof/Machine/CrcUnit.lean ====
section
/-! DEFINITION. The CRC unit's two operations (40_checksum.md R106, R107). It raises no error (R200). -/

namespace Sys2Proof.Machine

/-- `CRC.INIT` (R106). -/
def execCrcInit (s : State) : Host.Outcome State Fault Refusal :=
  .next (setCrc 0xFFFF s)

/-- `CRC.UPD b` (R107). -/
def execCrcUpd (b : U8) (s : State) : Host.Outcome State Fault Refusal :=
  .next (setCrc (crcUpd s.crc b) s)

end Sys2Proof.Machine
end

