-- ==== Sys2Proof/Machine/RxUnit.lean ====
section
/-! DEFINITION. The frame decoder (42_frame_rx.md): the decoding functions R131 to R134 and the RX unit's
two operations R135 to R138. -/

namespace Sys2Proof.Machine

/-- The header record of `decode_header` (R131): it keeps the 20 raw bytes for the checksum. -/
structure HeaderRec where
  /-- `magic = s[0..4)` -/
  magic : Bytes
  /-- the other fields -/
  fields : HeaderFields
  /-- `raw = s` -/
  raw : Bytes
deriving DecidableEq, Repr

/-- The header record of 20 bytes: it "unpacks the fixed fields" and tests nothing (R131). -/
def headerRec (s : Bytes) : HeaderRec where
  magic := slice s 0 4
  fields := headerFields s
  raw := s

/-- `decode_header(s)` (R131). -/
def decodeHeader (s : Bytes) : Except RxEvent HeaderRec :=
  if s.length < headerLen then .error (.malformedHeader s.length) else .ok (headerRec s)

/-- `decode_frame(h, p, c)` (R132): the magic is tested before the checksum (R207). -/
def decodeFrame (h : HeaderRec) (p c : Bytes) : RxEvent :=
  if magicOk h.magic then
    if field16 c 0 = crc16 (h.raw ++ p) then .frame h.fields p (field16 c 0)
    else .checksumMismatch h.fields (field16 c 0) (crc16 (h.raw ++ p))
  else .badMagic h.magic h.fields (field16 c 0) (crc16 (h.raw ++ p))

/-- A frame is well-formed when `decode_frame` returns `Frame` (R133). -/
def wellFormedFrame (h : HeaderRec) (p c : Bytes) : Bool :=
  magicOk h.magic && field16 c 0 == crc16 (h.raw ++ p)

/-- `rx_burst`, on at most `n` frames (R134). -/
def rxBurstUpTo : Nat → Bytes → List RxEvent
  | 0, _ => []
  | n + 1, s =>
    match decodeHeader (s.take headerLen) with
    | .error e => [e]
    | .ok h =>
      if s.length < 22 + h.fields.payloadLength.toNat then
        [.truncatedFrame h.magic h.fields (s.length - 20) (h.fields.payloadLength.toNat + 2)]
      else
        decodeFrame h (slice s 20 (20 + h.fields.payloadLength.toNat))
            (slice s (20 + h.fields.payloadLength.toNat) (22 + h.fields.payloadLength.toNat))
          :: rxBurstUpTo n (s.drop (22 + h.fields.payloadLength.toNat))

/-- `rx_burst(s)`, the events of a whole burst (R134); a burst holds fewer frames than bytes. -/
def rxBurst (s : Bytes) : List RxEvent :=
  rxBurstUpTo (s.length + 1) s

/-- `complete_frame(b)` (R137): exactly one event, and the unit is empty whatever the verdict. -/
def completeFrame (c0 b : U8) (s : State) : State :=
  raiseError (.rxEvt (decodeFrame (headerRec s.rxHdr) s.rxPay [c0, b])) s

/-- `RX.BYTE b` (R135). -/
def rxTake (b : U8) (s : State) : State :=
  match s.rxPhase with
  | .hdr => rxPutHeader b s
  | .pay => rxPutPayload b s
  | .csum =>
    match s.rxCs0 with
    | none => rxHoldLow b s
    | some c0 => completeFrame c0 b s

/-- `RX.BYTES`, one `RX.BYTE` for each byte (R92). -/
def rxTakeAll : Bytes → State → State
  | [], s => s
  | b :: t, s => rxTakeAll t (rxTake b s)

/-- The event of `RX.EOB`: always exactly one error, chosen by the phase (R138, R207). -/
def eobEvent (s : State) : RxEvent :=
  match s.rxPhase with
  | .hdr => .malformedHeader s.rxHdr.length
  | .pay | .csum =>
    .truncatedFrame s.rxMagic (headerFields s.rxHdr)
      (s.rxPay.length + if s.rxCs0 = none then 0 else 1) (s.rxPlen.toNat + 2)

/-- `RX.BYTE b` (R135). -/
def execRxByte (b : U8) (s : State) : Host.Outcome State Fault Refusal :=
  .next (rxTake b s)

/-- `RX.EOB` (R138). -/
def execRxEob (s : State) : Host.Outcome State Fault Refusal :=
  .next (raiseError (.rxEvt (eobEvent s)) s)

end Sys2Proof.Machine
end

