-- ==== Sys2Proof/Machine/FrameWords.lean ====
section
/-! DEFINITION. The wire words of a frame as instructions (R5): the eight frame-header rows
(45_function_codes.md R265 to R272) and the trailer (R71). A word comes in on the incoming stream, so its
meaning is `RX.BYTES` of its bytes (R92), wherever in a frame the RX unit stands: position alone decides
what a byte is (R135), and the codec treats every `function` alike (R75). -/

namespace Sys2Proof.Machine

/-- `FRAME.REQ_WHOAMI` (R265). -/
def execFrameReqWhoami (seq src dst : U32) (plen : U16) (s : State) : Host.Outcome State Fault Refusal :=
  .next (rxTakeAll (encHeader seq src dst 1 plen) s)

/-- `FRAME.RESP_WHOAMI` (R266). -/
def execFrameRespWhoami (seq src dst : U32) (plen : U16) (s : State) : Host.Outcome State Fault Refusal :=
  .next (rxTakeAll (encHeader seq src dst 2 plen) s)

/-- `FRAME.REQ_STATUS` (R267). -/
def execFrameReqStatus (seq src dst : U32) (plen : U16) (s : State) : Host.Outcome State Fault Refusal :=
  .next (rxTakeAll (encHeader seq src dst 3 plen) s)

/-- `FRAME.RESP_STATUS` (R268). -/
def execFrameRespStatus (seq src dst : U32) (plen : U16) (s : State) : Host.Outcome State Fault Refusal :=
  .next (rxTakeAll (encHeader seq src dst 4 plen) s)

/-- `FRAME.REQ_WRITE_DATA` (R269). -/
def execFrameReqWriteData (seq src dst : U32) (plen : U16) (s : State) : Host.Outcome State Fault Refusal :=
  .next (rxTakeAll (encHeader seq src dst 5 plen) s)

/-- `FRAME.RESP_WRITE_DATA` (R270). -/
def execFrameRespWriteData (seq src dst : U32) (plen : U16) (s : State) : Host.Outcome State Fault Refusal :=
  .next (rxTakeAll (encHeader seq src dst 6 plen) s)

/-- `FRAME.REQ_READ_DATA` (R271). -/
def execFrameReqReadData (seq src dst : U32) (plen : U16) (s : State) : Host.Outcome State Fault Refusal :=
  .next (rxTakeAll (encHeader seq src dst 7 plen) s)

/-- `FRAME.RESP_READ_DATA` (R272). -/
def execFrameRespReadData (seq src dst : U32) (plen : U16) (s : State) : Host.Outcome State Fault Refusal :=
  .next (rxTakeAll (encHeader seq src dst 8 plen) s)

/-- `FRAME.TRAILER` (R71): low byte first. -/
def execFrameTrailer (checksum : U16) (s : State) : Host.Outcome State Fault Refusal :=
  .next (rxTakeAll (le16 checksum) s)

end Sys2Proof.Machine
end

