-- ==== Sys2Proof/Machine/Reset.lean ====
section
/-! DEFINITION. The operation `RESET` (70_reset_and_hazards.md R220). -/

namespace Sys2Proof.Machine

/-- `RESET` (R220): a frame or payload in flight is abandoned without an event. -/
def execReset (s : State) : Host.Outcome State Fault Refusal :=
  .next (resetElements s)

end Sys2Proof.Machine
end

