-- ==== Sys2Proof/Machine/TxUnit.lean ====
section
/-! DEFINITION. The frame encoder and the TX unit's two operations (41_frame_tx.md R115 to R120). -/

namespace Sys2Proof.Machine

/-- `encode_frame(seq, src, dst, fn, p)` (R117), used only where `|p| ≤ 65535`. -/
def encodeFrame (seq src dst : U32) (fn : U16) (p : Bytes) : Bytes :=
  encHeader seq src dst fn (BitVec.ofNat 16 p.length) ++ p
    ++ le16 (crc16 (encHeader seq src dst fn (BitVec.ofNat 16 p.length) ++ p))

/-- `TX.ENC` (R118). -/
def execTxEnc (seq src dst : U32) (fn : U16) (payload : Bytes) (s : State) : Host.Outcome State Fault Refusal :=
  .next <|
    if payloadMax < payload.length then raiseError (.txEvt (.payloadTooLong payload.length)) s
    else emit (.txOut (encodeFrame seq src dst fn payload)) s

/-- `TX.REQ` (R119): the frame carries the new counter value, modulo 2^32, and `CTRL_ID`; a payload that is
too long consumes no sequence number (R120). -/
def execTxReq (dst : U32) (fn : U16) (payload : Bytes) (s : State) : Host.Outcome State Fault Refusal :=
  .next <|
    if payloadMax < payload.length then raiseError (.txEvt (.payloadTooLong payload.length)) s
    else emit (.txOut (encodeFrame (s.seq + 1) s.ctrlId dst fn payload)) (setSeq (s.seq + 1) s)

end Sys2Proof.Machine
end

