-- ==== Sys2Proof/Machine/Dispatch.lean ====
section
/-! DEFINITION. `exec`: one arm for each row of spec/opcode_table.json, one direct call of its meaning. -/

namespace Sys2Proof.Machine

def exec (i : Instr) (s : State) : Host.Outcome State Fault Refusal :=
  match i with
  | .frameReqWhoami seq src dst plen => Sys2Proof.Machine.execFrameReqWhoami seq src dst plen s
  | .frameRespWhoami seq src dst plen => Sys2Proof.Machine.execFrameRespWhoami seq src dst plen s
  | .frameReqStatus seq src dst plen => Sys2Proof.Machine.execFrameReqStatus seq src dst plen s
  | .frameRespStatus seq src dst plen => Sys2Proof.Machine.execFrameRespStatus seq src dst plen s
  | .frameReqWriteData seq src dst plen => Sys2Proof.Machine.execFrameReqWriteData seq src dst plen s
  | .frameRespWriteData seq src dst plen => Sys2Proof.Machine.execFrameRespWriteData seq src dst plen s
  | .frameReqReadData seq src dst plen => Sys2Proof.Machine.execFrameReqReadData seq src dst plen s
  | .frameRespReadData seq src dst plen => Sys2Proof.Machine.execFrameRespReadData seq src dst plen s
  | .frameTrailer checksum => Sys2Proof.Machine.execFrameTrailer checksum s
  | .chunkNone id size => Sys2Proof.Machine.execChunkNone id size s
  | .chunkI8 id size => Sys2Proof.Machine.execChunkI8 id size s
  | .chunkU8 id size => Sys2Proof.Machine.execChunkU8 id size s
  | .chunkI16 id size => Sys2Proof.Machine.execChunkI16 id size s
  | .chunkU16 id size => Sys2Proof.Machine.execChunkU16 id size s
  | .chunkI32 id size => Sys2Proof.Machine.execChunkI32 id size s
  | .chunkU32 id size => Sys2Proof.Machine.execChunkU32 id size s
  | .chunkF32 id size => Sys2Proof.Machine.execChunkF32 id size s
  | .chunkF64 id size => Sys2Proof.Machine.execChunkF64 id size s
  | .chunkString id size => Sys2Proof.Machine.execChunkString id size s
  | .chunkArrI8 id size => Sys2Proof.Machine.execChunkArrI8 id size s
  | .chunkArrU8 id size => Sys2Proof.Machine.execChunkArrU8 id size s
  | .chunkArrI16 id size => Sys2Proof.Machine.execChunkArrI16 id size s
  | .chunkArrU16 id size => Sys2Proof.Machine.execChunkArrU16 id size s
  | .chunkArrI32 id size => Sys2Proof.Machine.execChunkArrI32 id size s
  | .chunkArrU32 id size => Sys2Proof.Machine.execChunkArrU32 id size s
  | .chunkArrF32 id size => Sys2Proof.Machine.execChunkArrF32 id size s
  | .chunkArrF64 id size => Sys2Proof.Machine.execChunkArrF64 id size s
  | .chunkCardUid id size => Sys2Proof.Machine.execChunkCardUid id size s
  | .chunkArrCardUid id size => Sys2Proof.Machine.execChunkArrCardUid id size s
  | .chunkCardRange id size => Sys2Proof.Machine.execChunkCardRange id size s
  | .crcInit => Sys2Proof.Machine.execCrcInit s
  | .crcUpd b => Sys2Proof.Machine.execCrcUpd b s
  | .txEnc seq src dst fn payload => Sys2Proof.Machine.execTxEnc seq src dst fn payload s
  | .txReq dst fn payload => Sys2Proof.Machine.execTxReq dst fn payload s
  | .rxByte b => Sys2Proof.Machine.execRxByte b s
  | .rxEob => Sys2Proof.Machine.execRxEob s
  | .tlvLoad p => Sys2Proof.Machine.execTlvLoad p s
  | .tlvStep => Sys2Proof.Machine.execTlvStep s
  | .reset => Sys2Proof.Machine.execReset s

end Sys2Proof.Machine
end

