-- ==== Sys2Proof/Machine/Fetch.lean ====
section
/-! DEFINITION. Fetching. The block has no stored program: operations arrive from the host at the ports
(20_memory.md R64), so the next instruction is what the oldest entry of `State.pending` gives
(notes/assumptions/4.md). Bytes of a `read` are taken one by one, except that a whole header or trailer word
standing where the RX unit expects one is taken as that word; a `TLV.STEP` on a chunk header of the table is
that header's row. Neither changes what the block does: a word's meaning is `RX.BYTES` of its bytes, and a
chunk row is `TLV.STEP` on it. -/

namespace Sys2Proof.Machine

/-- The format of the word the RX unit's cursor stands in front of, if it is in front of one (R26, R31). -/
def State.rxExpects (s : State) : Option Format :=
  match s.rxPhase, s.rxHdr, s.rxCs0 with
  | .hdr, [], _ => some .fh
  | .csum, _, none => some .ft
  | _, _, _ => none

/-- The instruction at the front of the incoming bytes `b :: t`, and the bytes after it. -/
def fetchStream (s : State) (b : U8) (t : Bytes) : Instr × Bytes :=
  match s.rxExpects with
  | none => (.rxByte b, t)
  | some f =>
    match decode s.params f (b :: t) with
    | .ok r => r
    | .error _ => (.rxByte b, t)

/-- The instruction that a `TLV.STEP` runs: the row of the chunk header at the cursor of an active unit, or
`TLV.STEP` itself where no such header stands there (inactive, truncated, unassigned tag). -/
def fetchChunk (s : State) : Instr :=
  if s.tlvActive then
    match decode s.params .ch (s.tlvBuf.drop s.tlvCur) with
    | .ok (i, _) => i
    | .error _ => .tlvStep
  else .tlvStep

/-- The instruction of a port operation. -/
def fetchOp (s : State) (o : PortOp) : Instr :=
  match o with
  | .tlvStep => fetchChunk s
  | o => o.toInstr

/-- The queue when `rest'` of a `read`'s bytes are left in front of `q`. -/
def pushRead (rest' : Bytes) (q : List Issue) : List Issue :=
  if rest' = [] then q else .read rest' :: q

/-- The next instruction and the queue after it is taken; `none` where nothing is waiting, or where the
oldest entry is a `read` that returned no bytes. -/
def fetch (s : State) : Option Instr × List Issue :=
  match s.pending with
  | [] => (none, [])
  | .op o :: q => (some (fetchOp s o), q)
  | .read [] :: q => (none, q)
  | .read (b :: t) :: q => (some (fetchStream s b t).1, pushRead (fetchStream s b t).2 q)

/-- The RX unit in front of a header word: empty. -/
def atHeader (s : State) : State :=
  { s with rxPhase := .hdr, rxHdr := [], rxPay := [], rxCs0 := none, rxCrc := 0xFFFF }

/-- The RX unit in front of a trailer word: the header of an all-zero, empty-payload frame received. -/
def atTrailer (s : State) : State :=
  { s with
    rxPhase := .csum
    rxHdr := encHeader 0 0 0 0 0
    rxPay := []
    rxCs0 := none
    rxCrc := crc16 (encHeader 0 0 0 0 0) }

/-- The TLV unit in front of the chunk word `w`: it and value bytes of zeros, as many as its `size` says and
a payload holds. -/
def atChunk (w : Bytes) (s : State) : State :=
  { s with
    tlvBuf := w ++ List.replicate (min (field16 w 2).toNat (payloadMax - chunkHdrLen)) 0
    tlvCur := 0
    tlvActive := true }

end Sys2Proof.Machine
end

