-- ==== Sys2Proof/Machine/Step.lean ====
section
/-! DEFINITION. One step of the block, and a word of the table placed where the next step fetches it. -/

namespace Sys2Proof.Machine

/-- One step: the next instruction is taken from what the host has issued and run. With nothing to run the
block holds its state and does nothing (R11, R216, R221). -/
def step (s : State) : Host.Outcome State Fault Refusal :=
  match fetch s with
  | (none, q) => .next (setPending q s)
  | (some i, q) => exec i (setPending q s)

/-- The state in which the next step fetches the table word of `nbits` bits `w`: a header or trailer word as
the next bytes of the incoming stream, with the RX unit in front of such a word; a chunk word at the cursor
of the TLV unit, with a `TLV.STEP` issued. An operation has no bits (R90): for another width nothing changes.
DESIGN CHOICE (notes/assumptions/5.md). -/
def State.withFetchWord (s : State) (nbits w : Nat) : State :=
  match formatOfWidth nbits with
  | .fh => setPending (.read (leBytes 20 w) :: s.pending) (atHeader s)
  | .ft => setPending (.read (leBytes 2 w) :: s.pending) (atTrailer s)
  | .ch => setPending (.op .tlvStep :: s.pending) (atChunk (leBytes 4 w) s)
  | .port => s

end Sys2Proof.Machine
end

