-- ==== Sys2Proof/Machine/Pseudo.lean ====
section
/-! DEFINITION. Sequences of operations (20_memory.md R61) and the pseudo-operations of 30_encoding.md R92,
which expand to operations and add no behaviour. -/

namespace Sys2Proof.Machine

/-- Instructions run one after the other, each seeing the state the earlier ones left (R61). -/
def execAll : List Instr → State → Host.Outcome State Fault Refusal
  | [], s => .next s
  | i :: is, s =>
    match exec i s with
    | .next t => execAll is t
    | .fault r => .fault r
    | .refused r => .refused r

/-- `WHOAMI dst` (R92). -/
def whoamiOp (dst : U32) : Instr := .txReq dst (FnName.code .reqWhoami) []

/-- `STATUS dst` (R92). -/
def statusOp (dst : U32) : Instr := .txReq dst (FnName.code .reqStatus) []

/-- `CRC16 b0 … b(n-1)` (R92). -/
def crc16Ops (bs : Bytes) : List Instr := .crcInit :: bs.map Instr.crcUpd

/-- `RX.BYTES b0 … b(n-1)` (R92). -/
def rxBytesOps (bs : Bytes) : List Instr := bs.map Instr.rxByte

/-- `TLV.RUN` (R92): `TLV.STEP` repeated while `TLV_ACTIVE` is true, at most 16384 times (R173). Steps of an
inactive unit do nothing (R174), so the bound itself may be run. -/
def tlvRunOps : List Instr := List.replicate 16384 .tlvStep

/-- `TLV.DECODE p` (R92). -/
def tlvDecodeOps (p : Payload) : List Instr := .tlvLoad p :: tlvRunOps

end Sys2Proof.Machine
end

