-- ==== Sys2Proof/Safety.lean ====
section
/-! DEFINITION. The terms claims use: the invariants the spec states of a reachable state (10_state.md R32,
R36, R21, R25), the units that own the state (R20), and what counts as a safe step (00_scope.md R10). -/

namespace Sys2Proof.Machine

/-- The RX invariants of R32, with the bounds of R21. -/
abbrev State.rxInv (s : State) : Prop :=
  s.rxCrc = crcFold 0xFFFF (s.rxHdr ++ s.rxPay) ∧
  (s.rxPhase = .hdr → s.rxHdr.length ≤ 19 ∧ s.rxPay = [] ∧ s.rxCs0 = none) ∧
  (s.rxPhase = .pay → s.rxHdr.length = 20 ∧ s.rxPay.length + 1 ≤ s.rxPlen.toNat ∧ s.rxCs0 = none) ∧
  (s.rxPhase = .csum → s.rxHdr.length = 20 ∧ s.rxPay.length = s.rxPlen.toNat)

/-- The TLV invariants of R36, with the bound of R21. -/
abbrev State.tlvInv (s : State) : Prop :=
  s.tlvBuf.length ≤ 65535 ∧ s.tlvCur ≤ s.tlvBuf.length ∧ (s.tlvActive = true → s.tlvCur < s.tlvBuf.length)

/-- The invariant of the block: R32, R36, and the constant register holds its parameter (R25). -/
abbrev State.inv (s : State) : Prop :=
  s.rxInv ∧ s.tlvInv ∧ s.ctrlId = s.params.controllerId

/-- The RX unit is empty (R137, R140). -/
abbrev State.rxEmpty (s : State) : Prop :=
  s.rxPhase = .hdr ∧ s.rxHdr = [] ∧ s.rxPay = [] ∧ s.rxCs0 = none ∧ s.rxCrc = 0xFFFF

/-- The four units (R11, R20). -/
inductive BlockUnit where
  /-- owns `CRC` -/
  | crc
  /-- owns `SEQ` and `CTRL_ID` -/
  | tx
  /-- owns `RX_PHASE`, `RX_HDR`, `RX_PAY`, `RX_CS0`, `RX_CRC` -/
  | rx
  /-- owns `TLV_BUF`, `TLV_CUR`, `TLV_ACTIVE` -/
  | tlv
deriving DecidableEq, Repr

/-- The unit whose operation or wire word an instruction is; `RESET` is every unit's. -/
def unitOf : Instr → Option BlockUnit
  | .crcInit => some .crc
  | .crcUpd _ => some .crc
  | .txEnc _ _ _ _ _ => some .tx
  | .txReq _ _ _ => some .tx
  | .tlvLoad _ => some .tlv
  | .tlvStep => some .tlv
  | .rxByte _ => some .rx
  | .rxEob => some .rx
  | .reset => none
  | i => if i.format = .ch then some .tlv else some .rx

/-- The two states agree on what the unit `u` owns (R20). -/
def State.sameUnit (u : BlockUnit) (s t : State) : Prop :=
  match u with
  | .crc => s.crc = t.crc
  | .tx => s.seq = t.seq ∧ s.ctrlId = t.ctrlId
  | .rx =>
    s.rxPhase = t.rxPhase ∧ s.rxHdr = t.rxHdr ∧ s.rxPay = t.rxPay ∧ s.rxCs0 = t.rxCs0 ∧ s.rxCrc = t.rxCrc
  | .tlv => s.tlvBuf = t.tlvBuf ∧ s.tlvCur = t.tlvCur ∧ s.tlvActive = t.tlvActive

/-- The unit on whose port an emission stands (R12); the CRC unit emits nothing. -/
def Output.unit : Output → BlockUnit
  | .txOut _ => .tx
  | .txEvt _ => .tx
  | .rxEvt _ => .rx
  | .tlvEvt _ => .tlv

/-- What one unit has emitted, oldest first. -/
def emittedBy (u : BlockUnit) (t : List Output) : List Output :=
  t.filter fun o => o.unit == u

/-- The `Chunk` events the chunks `(id, tag, raw)` stand for, the first of them at offset `off` (R179). -/
def chunkEventsFrom (m : TagMap) : Nat → List (U8 × U8 × Bytes) → List TlvEvent
  | _, [] => []
  | off, (id, tag, raw) :: ks =>
    (match m.dtype tag with
      | some d => TlvEvent.chunk off id tag (BitVec.ofNat 16 raw.length) d raw (elems d raw)
      | none => TlvEvent.unknownDataType off id tag (BitVec.ofNat 16 raw.length))
      :: chunkEventsFrom m (off + 4 + raw.length) ks

/-- How far an event of `TLV_EVT` moves the cursor: `4 + size` for a chunk that was stepped over, and for a
truncated chunk nothing (R175, R203). -/
def steppedOver : TlvEvent → Nat
  | .chunk _ _ _ size _ _ _ => 4 + size.toNat
  | .unknownDataType _ _ _ size => 4 + size.toNat
  | .sizeMismatch _ _ _ size _ _ => 4 + size.toNat
  | .truncatedHeader _ _ => 0
  | .truncatedValue _ _ _ _ _ => 0

/-- TruncatedChunk, in either part (R196). -/
def isTruncated : TlvEvent → Bool
  | .truncatedHeader _ _ => true
  | .truncatedValue _ _ _ _ _ => true
  | _ => false

/-- The field `off` of an event of `TLV_EVT`. -/
def eventOffset : TlvEvent → Nat
  | .chunk off _ _ _ _ _ _ => off
  | .unknownDataType off _ _ _ => off
  | .sizeMismatch off _ _ _ _ _ => off
  | .truncatedHeader off _ => off
  | .truncatedValue off _ _ _ _ => off

/-- A safe step: the block goes on (R10: no operation faults). -/
def safeOutcome (o : Host.Outcome State Fault Refusal) : Prop :=
  ∃ t, o = .next t

end Sys2Proof.Machine
end

