-- ==== Sys2Proof/Certificates/Slice0/Obligations.lean ====
section
/-! DEFINITION. The statements for the provers. Each docstring names the rule of spec/ a statement
formalises. A statement over every state holds for every value of the open parameters `TAGMAP` and
`CONTROLLER_ID`, which a state carries. -/

open Sys2Proof Sys2Proof.Machine

/-! ### Reset and invariants -/

/-- R220, R40: power-on is the same as `RESET`, and every element has the value the table gives. -/
def Obligations.PowerOnLeavesTheTableValues : Prop :=
  ∀ p : Params,
    (State.powerOn p).crc = 0xFFFF ∧ (State.powerOn p).seq = 0 ∧ (State.powerOn p).ctrlId = p.controllerId ∧
    (State.powerOn p).rxPhase = .hdr ∧ (State.powerOn p).rxHdr = [] ∧ (State.powerOn p).rxPay = [] ∧
    (State.powerOn p).rxCs0 = none ∧ (State.powerOn p).rxCrc = 0xFFFF ∧ (State.powerOn p).tlvBuf = [] ∧
    (State.powerOn p).tlvCur = 0 ∧ (State.powerOn p).tlvActive = false

/-- R220, R40: `RESET` writes every one of the eleven elements and emits nothing (R220), and the parameters are no
reset state (R222). That what is pending stays as well is the model's reading, notes/assumptions/10.md. -/
def Obligations.ResetWritesEveryElement : Prop :=
  ∀ s : State, exec .reset s = .next { s with
    crc := 0xFFFF, seq := 0, ctrlId := s.params.controllerId,
    rxPhase := .hdr, rxHdr := [], rxPay := [], rxCs0 := none, rxCrc := 0xFFFF,
    tlvBuf := [], tlvCur := 0, tlvActive := false }

/-- R32, R36: the invariants hold after `RESET`, whatever the parameters (the spec marks both as derived from
R40 and the operations' rules). -/
def Obligations.PowerOnMeetsTheInvariant : Prop :=
  ∀ p : Params, (State.powerOn p).inv

/-- R32, R36: the invariants hold after every instruction that starts where they hold (the spec marks both as
derived from R40 and the operations' rules). -/
def Obligations.EveryInstructionKeepsTheInvariant : Prop :=
  ∀ (i : Instr) (s t : State), s.inv → exec i s = .next t → t.inv

/-- R32, R36: the invariants hold after every step that starts where they hold (derived in the spec; the step
is the model's, notes/assumptions/4.md). -/
def Obligations.EveryStepKeepsTheInvariant : Prop :=
  ∀ s t : State, s.inv → step s = .next t → t.inv

/-- R10: every operation has an outcome in every state, and no step stops. -/
def Obligations.NothingStopsTheBlock : Prop :=
  (∀ (i : Instr) (s : State), safeOutcome (exec i s)) ∧ ∀ s : State, safeOutcome (step s)

/-- R64, R222, R25: no step changes a parameter, and `CTRL_ID` stays `CONTROLLER_ID`. -/
def Obligations.ParametersNeverChange : Prop :=
  ∀ s t : State, step s = .next t →
    t.params = s.params ∧ (s.ctrlId = s.params.controllerId → t.ctrlId = s.params.controllerId)

/-- R21, the column "written by": an element changes only under an operation named there or `RESET`. The column
names no wire word; that a frame's words are `RX.BYTE`s and a chunk row is a `TLV.STEP` is the model's reading,
notes/assumptions/6.md. -/
def Obligations.OnlyTheNamedOperationsWrite : Prop :=
  ∀ (i : Instr) (s t : State), exec i s = .next t → i ≠ .reset →
    (t.crc ≠ s.crc → i = .crcInit ∨ ∃ b, i = .crcUpd b) ∧
    (t.seq ≠ s.seq → ∃ dst fn p, i = .txReq dst fn p) ∧
    t.ctrlId = s.ctrlId ∧
    (t.rxPhase ≠ s.rxPhase ∨ t.rxHdr ≠ s.rxHdr ∨ t.rxPay ≠ s.rxPay ∨ t.rxCs0 ≠ s.rxCs0 ∨ t.rxCrc ≠ s.rxCrc →
      (∃ b, i = .rxByte b) ∨ i = .rxEob ∨ i.format = .fh ∨ i.format = .ft) ∧
    (t.tlvBuf ≠ s.tlvBuf → ∃ p, i = .tlvLoad p) ∧
    (t.tlvCur ≠ s.tlvCur ∨ t.tlvActive ≠ s.tlvActive →
      (∃ p, i = .tlvLoad p) ∨ i = .tlvStep ∨ i.format = .ch)

/-! ### Independence of the units -/

/-- R20: an instruction of one unit writes no element of another unit, and emits on its own ports alone,
after everything emitted before. Which unit a wire word belongs to is the model's reading, notes/assumptions/6.md. -/
def Obligations.UnitsWriteOnlyTheirOwnState : Prop :=
  ∀ (i : Instr) (u : BlockUnit) (s t : State), unitOf i = some u → exec i s = .next t →
    (∀ v, v ≠ u → State.sameUnit v s t) ∧ t.params = s.params ∧ t.pending = s.pending ∧
    ∃ es, t.trace = s.trace ++ es ∧ ∀ o ∈ es, o.unit = u

/-- R20: what an instruction of a unit does to that unit, and what it emits, depends on that unit's own
elements and the parameters alone. Which unit a wire word belongs to is the model's reading,
notes/assumptions/6.md. -/
def Obligations.UnitsReadOnlyTheirOwnState : Prop :=
  ∀ (i : Instr) (u : BlockUnit) (s₁ s₂ t₁ t₂ : State), unitOf i = some u → State.sameUnit u s₁ s₂ →
    s₁.params = s₂.params → exec i s₁ = .next t₁ → exec i s₂ = .next t₂ →
    State.sameUnit u t₁ t₂ ∧ ∃ es, t₁.trace = s₁.trace ++ es ∧ t₂.trace = s₂.trace ++ es

/-- R11: two instructions of different units may be run in either order: every unit ends in the same state
and has emitted the same (the spec's own inference, `[derived: from rule R20]`). Which unit a wire word belongs to is the
model's reading, notes/assumptions/6.md. -/
def Obligations.UnitsCommute : Prop :=
  ∀ (i j : Instr) (u v : BlockUnit) (s ab ba : State), unitOf i = some u → unitOf j = some v → u ≠ v →
    execAll [i, j] s = .next ab → execAll [j, i] s = .next ba →
    (∀ w, State.sameUnit w ab ba) ∧ ab.params = ba.params ∧ ab.pending = ba.pending ∧
    ∀ w, emittedBy w ab.trace = emittedBy w ba.trace

/-! ### The checksum and the CRC unit -/

/-- R106: `CRC.INIT` sets the register to `0xFFFF` and does nothing else. -/
def Obligations.CrcInitSetsTheRegister : Prop :=
  ∀ s : State, exec .crcInit s = .next { s with crc := 0xFFFF }

/-- R107 with R101: `CRC.UPD b` enters the byte in the low bits and shifts eight times, and does nothing
else. -/
def Obligations.CrcUpdShiftsEightTimes : Prop :=
  ∀ (b : U8) (s : State),
    let sh : U16 → U16 := fun r => if r.getLsbD 0 = true then (r >>> 1) ^^^ 0xA001#16 else r >>> 1
    exec (.crcUpd b) s =
      .next { s with crc := sh (sh (sh (sh (sh (sh (sh (sh (s.crc ^^^ b.setWidth 16)))))))) }

/-- R100, R101, R23: after `CRC.INIT` and `CRC.UPD` of each byte, the register holds the checksum of the
definitional, left-shifting form (that the two forms agree is derived in the spec). -/
def Obligations.CrcUnitComputesTheDefinedChecksum : Prop :=
  ∀ (bs : Bytes) (s : State), execAll (crc16Ops bs) s = .next { s with crc := crc16Def bs }

/-- R102: the fold, and that a checksum can be continued from the checksum of a prefix (the spec's own
inference, `[derived: from the definition of crc_fold]`). -/
def Obligations.ChecksumContinuesFromAPrefix : Prop :=
  (∀ r : U16, crcFold r [] = r) ∧ (∀ (r : U16) (b : U8) (t : Bytes), crcFold r (b :: t) = crcFold (crcUpd r b) t) ∧
  crc16 [] = 0xFFFF ∧ ∀ s t : Bytes, crc16 (s ++ t) = crcFold (crc16 s) t

/-- R104: `crc_upd` is linear over bitwise exclusive or, and has the table form (the spec marks both as derived
from R101). -/
def Obligations.CrcStepIsLinearAndHasItsTableForm : Prop :=
  (∀ (r₁ r₂ : U16) (b₁ b₂ : U8), crcUpd (r₁ ^^^ r₂) (b₁ ^^^ b₂) = crcUpd r₁ b₁ ^^^ crcUpd r₂ b₂) ∧
  ∀ (r : U16) (b : U8), crcUpd r b = (r >>> 8) ^^^ crcUpd 0 ((r ^^^ b.setWidth 16).setWidth 8)

/-- R105 (c): a message followed by its checksum, low byte first, has checksum zero (derived in the spec). -/
def Obligations.ChecksumResidueIsZero : Prop :=
  ∀ s : Bytes, crc16 (s ++ [(crc16 s).extractLsb' 0 8, (crc16 s).extractLsb' 8 8]) = 0

/-- R105 (b), at the level of `decode_frame` (the same split into header, payload and checksum): flip any
single bit of a well-formed frame and it is well-formed no more (at this level the spec derives it from the
linearity of R104). -/
def Obligations.AFlippedBitIsAlwaysCaught : Prop :=
  ∀ (h p c : Bytes) (k j : Nat), h.length = 20 → c.length = 2 → wellFormedFrame (headerRec h) p c = true →
    k < h.length + p.length + c.length → j < 8 →
    let f := (h ++ p ++ c).set k ((h ++ p ++ c).getD k 0 ^^^ (1#8 <<< j))
    wellFormedFrame (headerRec (slice f 0 20)) (slice f 20 (20 + p.length))
      (slice f (20 + p.length) (22 + p.length)) = false

/-! ### The TX unit -/

/-- R118 with R116, R117, R120: `TX.ENC` emits one frame, spelled out byte by byte, or refuses a payload that
is too long, and changes no element. -/
def Obligations.TxEncEmitsTheFrame : Prop :=
  ∀ (seq src dst : U32) (fn : U16) (p : Bytes) (s : State),
    let by4 : U32 → Bytes := fun v =>
      [v.extractLsb' 0 8, v.extractLsb' 8 8, v.extractLsb' 16 8, v.extractLsb' 24 8]
    let by2 : U16 → Bytes := fun v => [v.extractLsb' 0 8, v.extractLsb' 8 8]
    let body := [0x41, 0x55, 0x52, 0x41] ++ by4 seq ++ by4 src ++ by4 dst ++ by2 fn
      ++ by2 (BitVec.ofNat 16 p.length) ++ p
    exec (.txEnc seq src dst fn p) s = .next
      (if 65535 < p.length then { s with trace := s.trace ++ [.txEvt (.payloadTooLong p.length)] }
      else { s with trace := s.trace ++ [.txOut (body ++ by2 (crc16 body))] })

/-- R119 with R120: `TX.REQ` increments `SEQ` modulo 2^32 and emits the frame with the new value as `sequence`
and `CTRL_ID` as `source_id`; a payload that is too long is refused and consumes no sequence number. -/
def Obligations.TxReqSendsTheNextSequenceNumber : Prop :=
  ∀ (dst : U32) (fn : U16) (p : Bytes) (s : State),
    let by4 : U32 → Bytes := fun v =>
      [v.extractLsb' 0 8, v.extractLsb' 8 8, v.extractLsb' 16 8, v.extractLsb' 24 8]
    let by2 : U16 → Bytes := fun v => [v.extractLsb' 0 8, v.extractLsb' 8 8]
    let sq : U32 := BitVec.ofNat 32 ((s.seq.toNat + 1) % 2 ^ 32)
    let body := [0x41, 0x55, 0x52, 0x41] ++ by4 sq ++ by4 s.ctrlId ++ by4 dst ++ by2 fn
      ++ by2 (BitVec.ofNat 16 p.length) ++ p
    exec (.txReq dst fn p) s = .next
      (if 65535 < p.length then { s with trace := s.trace ++ [.txEvt (.payloadTooLong p.length)] }
      else { s with seq := sq, trace := s.trace ++ [.txOut (body ++ by2 (crc16 body))] })

/-- R120: a payload longer than 65535 bytes is refused by both operations: one event, no other effect. -/
def Obligations.TxRefusesAPayloadTooLong : Prop :=
  ∀ (seq src dst : U32) (fn : U16) (p : Bytes) (s : State), 65535 < p.length →
    exec (.txEnc seq src dst fn p) s =
        .next { s with trace := s.trace ++ [.txEvt (.payloadTooLong p.length)] } ∧
      exec (.txReq dst fn p) s =
        .next { s with trace := s.trace ++ [.txEvt (.payloadTooLong p.length)] }

/-- R72, R93: the frame `TX.ENC` emits for a named function is that function's header word, the payload and
a trailer word. -/
def Obligations.TxFramesAreHeaderPayloadTrailer : Prop :=
  ∀ (f : FnName) (seq src dst : U32) (p : Bytes) (s : State), p.length ≤ 65535 →
    exec (.txEnc seq src dst f.code p) s = .next { s with
      trace := s.trace ++ [.txOut
        (encode s.params (f.row seq src dst (BitVec.ofNat 16 p.length)) ++ p ++
          encode s.params (.frameTrailer
            (crc16 (encode s.params (f.row seq src dst (BitVec.ofNat 16 p.length)) ++ p))))] }

/-- R121: feed what `TX.ENC` emits to an empty RX unit byte by byte: exactly one `Frame` event with the
original fields comes out, and the unit is empty again (derived in the spec). -/
def Obligations.EncodedFramesAreReceivedBack : Prop :=
  ∀ (seq src dst : U32) (fn : U16) (p : Bytes) (s : State), p.length ≤ 65535 → s.rxEmpty →
    ∃ f : Bytes,
      exec (.txEnc seq src dst fn p) s = .next { s with trace := s.trace ++ [.txOut f] } ∧
      execAll (rxBytesOps f) s = .next { s with
        trace := s.trace ++ [.rxEvt (.frame ⟨seq, src, dst, fn, BitVec.ofNat 16 p.length⟩ p
          (crc16 (f.take (20 + p.length))))] }

/-! ### The RX unit -/

/-- R135 with R136 and R137: what `RX.BYTE` does in each phase. -/
def Obligations.RxByteFollowsThePhase : Prop :=
  ∀ (b : U8) (s : State),
    exec (.rxByte b) s = .next
      (match s.rxPhase, s.rxCs0 with
      | .hdr, _ => { s with
          rxHdr := s.rxHdr ++ [b]
          rxCrc := crcUpd s.rxCrc b
          rxPhase :=
            if s.rxHdr.length + 1 = 20 then
              if leAt (s.rxHdr ++ [b]) 18 2 = 0 then .csum else .pay
            else .hdr }
      | .pay, _ => { s with
          rxPay := s.rxPay ++ [b]
          rxCrc := crcUpd s.rxCrc b
          rxPhase := if s.rxPay.length + 1 = leAt s.rxHdr 18 2 then .csum else .pay }
      | .csum, none => { s with rxCs0 := some b }
      | .csum, some c0 =>
          let hdr : HeaderFields := ⟨s.rxSeq, s.rxSrc, s.rxDst, s.rxFn, s.rxPlen⟩
          let rx : U16 := BitVec.ofNat 16 (c0.toNat + 256 * b.toNat)
          let want := crc16 (s.rxHdr ++ s.rxPay)
          { s with
            rxPhase := .hdr, rxHdr := [], rxPay := [], rxCs0 := none, rxCrc := 0xFFFF
            trace := s.trace ++ [.rxEvt
              (if s.rxHdr.take 4 = [0x41, 0x55, 0x52, 0x41] then
                if rx = want then .frame hdr s.rxPay rx else .checksumMismatch hdr rx want
              else .badMagic (s.rxHdr.take 4) hdr rx want)] })

/-- R138: `RX.EOB` raises exactly one error, chosen by the phase, and empties the unit. -/
def Obligations.RxEobAbandonsTheFrameInFlight : Prop :=
  ∀ s : State,
    exec .rxEob s = .next { s with
      rxPhase := .hdr, rxHdr := [], rxPay := [], rxCs0 := none, rxCrc := 0xFFFF
      trace := s.trace ++ [.rxEvt
        (if s.rxPhase = .hdr then .malformedHeader s.rxHdr.length
        else .truncatedFrame s.rxMagic ⟨s.rxSeq, s.rxSrc, s.rxDst, s.rxFn, s.rxPlen⟩
          (s.rxPay.length + if s.rxCs0 = none then 0 else 1) (s.rxPlen.toNat + 2))] }

/-- R31: every `RX.BYTE` moves the RX cursor one position on, or back to the origin at a frame's end. -/
def Obligations.RxCursorMovesOneByte : Prop :=
  ∀ (b : U8) (s t : State), s.inv → exec (.rxByte b) s = .next t →
    t.rxOffset = s.rxOffset + 1 ∧ t.trace = s.trace ∨
    t.rxOffset = 0 ∧ t.rxPhase = .hdr ∧ s.rxOffset = 21 + s.rxPlen.toNat

/-- R140: from the empty RX state, the bytes of a burst and `RX.EOB` emit exactly `rx_burst`, in order, and
leave the unit empty (the spec's own inference, `[derived: from rules R134 to R138 ...]`). -/
def Obligations.ByteSerialReceptionIsRxBurst : Prop :=
  ∀ (bs : Bytes) (s : State), s.rxEmpty →
    execAll (rxBytesOps bs ++ [.rxEob]) s =
      .next { s with trace := s.trace ++ (rxBurst bs).map Output.rxEvt }

/-- R141: a burst of whole frames, good or corrupted, gives one verdict for each and then the end mark; a bad
frame is dropped and nothing else is lost (derived in the spec from R134). -/
def Obligations.ABurstOfWholeFrames : Prop :=
  ∀ fs : List (Bytes × Bytes × Bytes),
    (∀ f ∈ fs, f.1.length = 20 ∧ f.2.1.length = leAt f.1 18 2 ∧ f.2.2.length = 2) →
    rxBurst (fs.flatMap fun f => f.1 ++ f.2.1 ++ f.2.2) =
      fs.map (fun f => decodeFrame (headerRec f.1) f.2.1 f.2.2) ++ [.malformedHeader 0]

/-- R70, R135, R136, R75: a header word arriving at an empty RX unit fills the header, folds its bytes into the
running checksum and chooses the next phase by `payload_length`; `function` changes nothing. That a header row as an
instruction means the arrival of its bytes is the model's reading, notes/assumptions/6.md. -/
def Obligations.HeaderWordsFillAnEmptyUnit : Prop :=
  ∀ row ∈ ([(Instr.frameReqWhoami, 1), (Instr.frameRespWhoami, 2), (Instr.frameReqStatus, 3),
      (Instr.frameRespStatus, 4), (Instr.frameReqWriteData, 5), (Instr.frameRespWriteData, 6),
      (Instr.frameReqReadData, 7), (Instr.frameRespReadData, 8)] :
      List ((U32 → U32 → U32 → U16 → Instr) × U16)),
    ∀ (seq src dst : U32) (plen : U16) (s : State), s.rxEmpty →
      let by4 : U32 → Bytes := fun v =>
        [v.extractLsb' 0 8, v.extractLsb' 8 8, v.extractLsb' 16 8, v.extractLsb' 24 8]
      let by2 : U16 → Bytes := fun v => [v.extractLsb' 0 8, v.extractLsb' 8 8]
      let w := [0x41, 0x55, 0x52, 0x41] ++ by4 seq ++ by4 src ++ by4 dst ++ by2 row.2 ++ by2 plen
      exec (row.1 seq src dst plen) s = .next { s with
        rxHdr := w, rxCrc := crc16 w, rxPhase := if plen = 0 then .csum else .pay }

/-- R71, R137: the trailer word at the end of a frame gives the verdict and empties the unit. That the trailer row as
an instruction means `RX.BYTE` of its two bytes is the model's reading, notes/assumptions/6.md. -/
def Obligations.TrailerWordCompletesTheFrame : Prop :=
  ∀ (c : U16) (s : State), s.rxPhase = .csum → s.rxCs0 = none →
    let hdr : HeaderFields := ⟨s.rxSeq, s.rxSrc, s.rxDst, s.rxFn, s.rxPlen⟩
    let want := crc16 (s.rxHdr ++ s.rxPay)
    exec (.frameTrailer c) s = .next { s with
      rxPhase := .hdr, rxHdr := [], rxPay := [], rxCs0 := none, rxCrc := 0xFFFF
      trace := s.trace ++ [.rxEvt
        (if s.rxMagic = [0x41, 0x55, 0x52, 0x41] then
          if c = want then .frame hdr s.rxPay c else .checksumMismatch hdr c want
        else .badMagic s.rxMagic hdr c want)] }

/-- R135, R92: wherever in a frame the RX unit stands, a header or trailer word is `RX.BYTE` of each of its
bytes, since position alone decides what a byte is. That such a word as an instruction means this is the model's
reading, notes/assumptions/6.md. -/
def Obligations.FrameWordsAreTheirBytes : Prop :=
  ∀ (p : Params) (i : Instr) (s : State), i.format = .fh ∨ i.format = .ft →
    exec i s = execAll (rxBytesOps (encode p i)) s

/-! ### The TLV unit -/

/-- R170: `TLV.LOAD` replaces the buffer whole. -/
def Obligations.TlvLoadReplacesThePayload : Prop :=
  ∀ (p : Payload) (s : State), exec (.tlvLoad p) s = .next { s with
    tlvBuf := p.bytes, tlvCur := 0, tlvActive := decide (p.bytes.length > 0) }

/-- R171 with R157, R158, R160, R174: one `TLV.STEP`, in every state. -/
def Obligations.TlvStepDecodesOneChunk : Prop :=
  ∀ s : State,
    exec .tlvStep s = .next
      (if s.tlvActive = false then s
      else if s.tlvBuf.length - s.tlvCur < 4 then { s with
        tlvActive := false
        trace := s.trace ++ [.tlvEvt (.truncatedHeader s.tlvCur (s.tlvBuf.length - s.tlvCur))] }
      else
        let c := s.tlvCur
        let id := s.tlvBuf.getD c 0
        let tag := s.tlvBuf.getD (c + 1) 0
        let n := leAt s.tlvBuf (c + 2) 2
        let size : U16 := BitVec.ofNat 16 n
        let raw := (s.tlvBuf.drop (c + 4)).take n
        if n > s.tlvBuf.length - c - 4 then { s with
          tlvActive := false
          trace := s.trace ++ [.tlvEvt (.truncatedValue c id tag size (s.tlvBuf.length - c - 4))] }
        else { s with
          tlvCur := c + 4 + n
          tlvActive := decide (c + 4 + n < s.tlvBuf.length)
          trace := s.trace ++ [.tlvEvt
            (match s.params.tags.dtype tag with
            | none => .unknownDataType c id tag size
            | some d =>
              if n = 0 ∨ (dtypeKind d = .scalar ∧ n = dtypeWidth d) ∨
                  (dtypeKind d = .array ∧ n % dtypeWidth d = 0) then
                .chunk c id tag size d raw
                  (if dtypeWidth d = 0 then []
                  else (List.range (n / dtypeWidth d)).map fun k =>
                    slice raw (k * dtypeWidth d) ((k + 1) * dtypeWidth d))
              else .sizeMismatch c id tag size d (dtypeWidth d))] })

/-- R171, R169, R93: where the chunk header at the cursor is a word of the table, `TLV.STEP` does what that
row does (the model's reading of a row as an instruction, notes/assumptions/6.md). -/
def Obligations.TlvStepRunsTheChunkRow : Prop :=
  ∀ (s : State) (i : Instr) (rest : Bytes),
    decode s.params .ch (s.tlvBuf.drop s.tlvCur) = .ok (i, rest) → exec .tlvStep s = exec i s

/-- R240 to R248, R258, R260: the scalar rows. A chunk that lies wholly inside the payload is delivered when
its `size` is the width, as an empty value when it is 0, and is a size error otherwise; the cursor steps over
it either way. That a row is run as a `TLV.STEP` on its chunk is the model's reading, notes/assumptions/6.md. -/
def Obligations.ScalarChunkRows : Prop :=
  ∀ row ∈ ([(Instr.chunkNone, .noneType, 0, fun _ => 0), (Instr.chunkI8, .i8, 1, TagMap.i8),
      (Instr.chunkU8, .u8, 1, TagMap.u8), (Instr.chunkI16, .i16, 2, TagMap.i16),
      (Instr.chunkU16, .u16, 2, TagMap.u16), (Instr.chunkI32, .i32, 4, TagMap.i32),
      (Instr.chunkU32, .u32, 4, TagMap.u32), (Instr.chunkF32, .f32, 4, TagMap.f32),
      (Instr.chunkF64, .f64, 8, TagMap.f64), (Instr.chunkCardUid, .cardUid, 8, TagMap.cardUid),
      (Instr.chunkCardRange, .cardRange, 2, fun _ => 21)] :
      List ((U8 → U16 → Instr) × DType × Nat × (TagMap → U8))),
    ∀ (id : U8) (size : U16) (s : State), s.tlvActive = true →
      s.tlvCur + 4 + size.toNat ≤ s.tlvBuf.length →
      let raw := (s.tlvBuf.drop (s.tlvCur + 4)).take size.toNat
      let tag := row.2.2.2 s.params.tags
      exec (row.1 id size) s = .next { s with
        tlvCur := s.tlvCur + 4 + size.toNat
        tlvActive := decide (s.tlvCur + 4 + size.toNat < s.tlvBuf.length)
        trace := s.trace ++ [.tlvEvt
          (if size = 0 then .chunk s.tlvCur id tag 0 row.2.1 [] []
          else if size.toNat = row.2.2.1 then .chunk s.tlvCur id tag size row.2.1 raw [raw]
          else .sizeMismatch s.tlvCur id tag size row.2.1 row.2.2.1)] }

/-- R249 to R257, R259: the array rows. A chunk that lies wholly inside the payload is delivered when its
`size` is a multiple of the element width, with its elements in order, and is a size error otherwise; the
cursor steps over it either way. That a row is run as a `TLV.STEP` on its chunk is the model's reading,
notes/assumptions/6.md. -/
def Obligations.ArrayChunkRows : Prop :=
  ∀ row ∈ ([(Instr.chunkString, .string, 1, TagMap.string), (Instr.chunkArrI8, .arrI8, 1, TagMap.arrI8),
      (Instr.chunkArrU8, .arrU8, 1, TagMap.arrU8), (Instr.chunkArrI16, .arrI16, 2, TagMap.arrI16),
      (Instr.chunkArrU16, .arrU16, 2, TagMap.arrU16), (Instr.chunkArrI32, .arrI32, 4, TagMap.arrI32),
      (Instr.chunkArrU32, .arrU32, 4, TagMap.arrU32), (Instr.chunkArrF32, .arrF32, 4, TagMap.arrF32),
      (Instr.chunkArrF64, .arrF64, 8, TagMap.arrF64),
      (Instr.chunkArrCardUid, .arrCardUid, 8, TagMap.arrCardUid)] :
      List ((U8 → U16 → Instr) × DType × Nat × (TagMap → U8))),
    ∀ (id : U8) (size : U16) (s : State), s.tlvActive = true →
      s.tlvCur + 4 + size.toNat ≤ s.tlvBuf.length →
      let raw := (s.tlvBuf.drop (s.tlvCur + 4)).take size.toNat
      let tag := row.2.2.2 s.params.tags
      exec (row.1 id size) s = .next { s with
        tlvCur := s.tlvCur + 4 + size.toNat
        tlvActive := decide (s.tlvCur + 4 + size.toNat < s.tlvBuf.length)
        trace := s.trace ++ [.tlvEvt
          (if size.toNat % row.2.2.1 = 0 then
            .chunk s.tlvCur id tag size row.2.1 raw
              ((List.range (size.toNat / row.2.2.1)).map fun k =>
                (raw.drop (k * row.2.2.1)).take row.2.2.1)
          else .sizeMismatch s.tlvCur id tag size row.2.1 row.2.2.1)] }

/-- R171, R174, R196: a chunk row on an inactive unit does nothing, and a chunk that runs past the payload's
end halts the unit with the cursor where it was. R171 says so of `TLV.STEP`; that a chunk row has that effect, also
with fewer than 4 bytes left, where its word cannot stand at the cursor, is the model's reading,
notes/assumptions/6.md. -/
def Obligations.ChunkRowsHaltOnTruncation : Prop :=
  ∀ (d : DType) (id : U8) (size : U16) (s : State),
    (s.tlvActive = false → exec (d.row id size) s = .next s) ∧
    (s.tlvActive = true → s.tlvBuf.length - s.tlvCur < 4 →
      exec (d.row id size) s = .next { s with
        tlvActive := false
        trace := s.trace ++ [.tlvEvt (.truncatedHeader s.tlvCur (s.tlvBuf.length - s.tlvCur))] }) ∧
    (s.tlvActive = true → 4 ≤ s.tlvBuf.length - s.tlvCur →
      s.tlvBuf.length - s.tlvCur - 4 < size.toNat →
      exec (d.row id size) s = .next { s with
        tlvActive := false
        trace := s.trace ++ [.tlvEvt (.truncatedValue s.tlvCur id (s.params.tags.tagOf d) size
          (s.tlvBuf.length - s.tlvCur - 4))] })

/-- R172: loading a payload and stepping until the unit is inactive emits exactly `decode_chunks`, in order;
R173: 16384 steps are enough (both derived in the spec from R170 and R171). -/
def Obligations.TlvDecodeEmitsDecodeChunks : Prop :=
  ∀ (p : Payload) (s : State), ∃ c : Nat,
    execAll (tlvDecodeOps p) s = .next { s with
      tlvBuf := p.bytes, tlvCur := c, tlvActive := false
      trace := s.trace ++ (decodeChunks s.params.tags p.bytes).map Output.tlvEvt } ∧
    c = ((decodeChunks s.params.tags p.bytes).map steppedOver).sum ∧
    (c < p.bytes.length ↔ ∃ e ∈ decodeChunks s.params.tags p.bytes, isTruncated e = true)

/-- R175: without a TruncatedChunk the chunks add up to the payload; with one, it is the last event and its
`off` is what the events before it add up to (the spec's own inference, `[derived: from rule R172]`). -/
def Obligations.ChunkSizesAddUp : Prop :=
  ∀ (m : TagMap) (p : Bytes),
    ((∀ e ∈ decodeChunks m p, isTruncated e = false) →
      ((decodeChunks m p).map steppedOver).sum = p.length) ∧
    ∀ (es es' : List TlvEvent) (e : TlvEvent), decodeChunks m p = es ++ e :: es' → isTruncated e = true →
      es' = [] ∧ (es.map steppedOver).sum = eventOffset e

/-- R173: every step of an active unit stops it or moves the cursor on by at least 4, never past the end,
and a payload has at most 16384 events (derived in the spec from R171). -/
def Obligations.TlvStepsTerminate : Prop :=
  (∀ s t : State, s.inv → s.tlvActive = true → exec .tlvStep s = .next t →
    (t.tlvActive = false ∨ s.tlvCur + 4 ≤ t.tlvCur) ∧ s.tlvCur ≤ t.tlvCur ∧ t.tlvCur ≤ t.tlvBuf.length) ∧
  ∀ (m : TagMap) (p : Payload), (decodeChunks m p.bytes).length ≤ 16384

/-- R179: decoding encoded chunks gives the `Chunk` events of the same chunks, in the same order, and no
error (derived in the spec from R172 and R178). -/
def Obligations.EncodedChunksAreDecodedBack : Prop :=
  ∀ (m : TagMap) (ks : List (U8 × U8 × Bytes)),
    (∀ k ∈ ks, ∃ d, m.dtype k.2.1 = some d ∧ sizeOk d k.2.2.length = true) →
    (encodeChunks ks).length ≤ 65535 →
    decodeChunks m (encodeChunks ks) = chunkEventsFrom m 0 ks

/-- R160, R158: the elements of a legal value are its consecutive slices of the element width, and together
they are the value. -/
def Obligations.ElementsAreTheSlices : Prop :=
  ∀ (d : DType) (raw : Bytes), sizeOk d raw.length = true →
    elems d raw = (List.range (elemCount d raw.length)).map (fun i =>
      slice raw (i * dtypeWidth d) ((i + 1) * dtypeWidth d)) ∧
    (elems d raw).flatten = raw ∧ ∀ e ∈ elems d raw, e.length = dtypeWidth d

/-- R161, R162, R163, R165, R166, R178: the reading of an element lies in the range of its data type, and
writing it back gives the element's bytes. -/
def Obligations.ReadingsAreInRangeAndInvertible : Prop :=
  ∀ (d : DType) (e : Bytes), e.length = dtypeWidth d →
    encElem d (readElem d e) = e ∧
    (dtypeReading d = .signed → ∃ v : Int, readElem d e = .int v ∧
      -(2 ^ (8 * dtypeWidth d - 1)) ≤ v ∧ v < 2 ^ (8 * dtypeWidth d - 1)) ∧
    (dtypeReading d = .unsigned → ∃ v : Int, readElem d e = .int v ∧ 0 ≤ v ∧ v < 2 ^ (8 * dtypeWidth d))

/-! ### Errors -/

/-- R201, R202, R203: what raising each error does to the raising unit; nothing else changes. -/
def Obligations.ErrorsEnterByUnit : Prop :=
  ∀ s : State,
    (∀ len, raiseError (.txEvt (.payloadTooLong len)) s =
      { s with trace := s.trace ++ [.txEvt (.payloadTooLong len)] }) ∧
    (∀ e : RxEvent, raiseError (.rxEvt e) s = { s with
      rxPhase := .hdr, rxHdr := [], rxPay := [], rxCs0 := none, rxCrc := 0xFFFF
      trace := s.trace ++ [.rxEvt e] }) ∧
    (∀ e : TlvEvent, isTruncated e = true → raiseError (.tlvEvt e) s =
      { s with tlvActive := false, trace := s.trace ++ [.tlvEvt e] }) ∧
    (∀ e : TlvEvent, isTruncated e = false → raiseError (.tlvEvt e) s = { s with
      tlvCur := s.tlvCur + steppedOver e
      tlvActive := decide (s.tlvCur + steppedOver e < s.tlvBuf.length)
      trace := s.trace ++ [.tlvEvt e] })

/-! ### Encodings -/

/-- R70, R71, R80, R93: decoding an encoded well-formed word gives the instruction back, with every operand
at every value and whatever bytes follow. -/
def Obligations.DecodeEncodeAgree : Prop :=
  ∀ (p : Params) (i : Instr) (rest : Bytes), i.wf p = true → i.format ≠ .port →
    decode p i.format (encode p i ++ rest) = .ok (i, rest)

/-- R70, R71, R80, R93: each word has one meaning: what decodes to an instruction is that instruction's
encoding. -/
def Obligations.EncodeDecodeAgree : Prop :=
  ∀ (p : Params) (f : Format) (bs rest : Bytes) (i : Instr), decode p f bs = .ok (i, rest) →
    i.format = f ∧ encode p i ++ rest = bs

/-- R93: a 20-byte header is the row of a function exactly when its masked integer is the row's match, and a
4-byte chunk header is the row of a variant exactly when its masked integer is the variant's tag. -/
def Obligations.RowsMatchTheirMask : Prop :=
  (∀ (p : Params) (bs : Bytes) (f : FnName), bs.length = 20 →
    ((∃ seq src dst plen, decode p .fh bs = .ok (f.row seq src dst plen, [])) ↔
      headerInt bs &&& 0x0000FFFF000000000000000000000000FFFFFFFF#160 =
        BitVec.ofNat 160 (f.code.toNat * 2 ^ 128 + 0x41525541))) ∧
  ∀ (p : Params) (bs : Bytes) (d : DType), p.wf = true → bs.length = 4 →
    ((∃ id size, decode p .ch bs = .ok (d.row id size, [])) ↔
      chunkInt bs &&& 0x0000FF00#32 = BitVec.ofNat 32 ((p.tags.tagOf d).toNat * 2 ^ 8))

/-- R7, R82: the tag space. 0 is NONE, 21 is CARD_RANGE, nothing above 21 is assigned, no two tags are one
variant, and under legal parameters every variant has its tag. -/
def Obligations.TagSpaceIsAsConstrained : Prop :=
  ∀ m : TagMap,
    m.dtype 0 = some .noneType ∧ m.dtype 21 = some .cardRange ∧
    (∀ t : U8, 21 < t.toNat → m.dtype t = none) ∧
    (∀ (t u : U8) (d : DType), m.dtype t = some d → m.dtype u = some d → t = u) ∧
    (m.wf = true → ∀ d : DType, m.dtype (m.tagOf d) = some d)

/-- R74, R80, R83: a few words written out from the spec's encodings decode to their instructions (the
source's example header, a trailer, a `CARD_RANGE`, a `NONE`, and a `U16` under `TAGMAP_REF`), and a header
with a foreign magic, one with an unnamed function, and a chunk with tag 20 under `TAGMAP_REF` are
rejected. -/
def Obligations.SampleWordsDecode : Prop :=
  decode Config.referenceParams .fh [0x41, 0x55, 0x52, 0x41, 0x01, 0x00, 0x00, 0x00, 0xD2, 0x04, 0x00, 0x00,
      0x00, 0x00, 0x00, 0x00, 0x01, 0x00, 0x00, 0x00] = .ok (.frameReqWhoami 1 1234 0 0, []) ∧
  decode Config.referenceParams .ft [0x34, 0x0D] = .ok (.frameTrailer 0x0D34, []) ∧
  decode Config.referenceParams .ch [0x07, 0x15, 0x02, 0x00, 0x00, 0x0A] =
    .ok (.chunkCardRange 7 2, [0x00, 0x0A]) ∧
  decode Config.referenceParams .ch [0x10, 0x00, 0x00, 0x00] = .ok (.chunkNone 0x10 0, []) ∧
  decode Config.referenceParams .ch [0x14, 0x04, 0x02, 0x00] = .ok (.chunkU16 0x14 2, []) ∧
  decode Config.referenceParams .fh [0x61, 0x55, 0x52, 0x41, 0x01, 0x00, 0x00, 0x00, 0xD2, 0x04, 0x00, 0x00,
      0x00, 0x00, 0x00, 0x00, 0x01, 0x00, 0x00, 0x00] = .error (.badMagic [0x61, 0x55, 0x52, 0x41]) ∧
  decode Config.referenceParams .fh [0x41, 0x55, 0x52, 0x41, 0x01, 0x00, 0x00, 0x00, 0xD2, 0x04, 0x00, 0x00,
      0x00, 0x00, 0x00, 0x00, 0x09, 0x00, 0x00, 0x00] = .error (.unnamedFunction 9) ∧
  decode Config.referenceParams .ch [0x01, 0x14, 0x02, 0x00] = .error (.unassignedTag 20)

/-! ### Steps (the model's own issue of operations, notes/assumptions/4.md) -/

/-- A step runs the decoded instruction. An operation at the head of the queue is taken and run; a
`TLV.STEP` of an active unit in front of a chunk word of the table runs that word's row; of the bytes of a
`read`, a header word in front of an empty RX unit and a trailer word in front of a finished payload run
whole, any other byte as `RX.BYTE`; with nothing issued nothing happens. -/
def Obligations.StepRunsTheDecodedInstruction : Prop :=
  ∀ (s : State) (q : List Issue),
    (s.pending = [] → step s = .next s) ∧
    (s.pending = .read [] :: q → step s = .next { s with pending := q }) ∧
    (∀ o : PortOp, o ≠ .tlvStep → s.pending = .op o :: q → step s = exec o.toInstr { s with pending := q }) ∧
    (s.pending = .op .tlvStep :: q →
      (∀ i rest, s.tlvActive = true → decode s.params .ch (s.tlvBuf.drop s.tlvCur) = .ok (i, rest) →
        step s = exec i { s with pending := q }) ∧
      ((s.tlvActive = false ∨ ∃ e, decode s.params .ch (s.tlvBuf.drop s.tlvCur) = .error e) →
        step s = exec .tlvStep { s with pending := q })) ∧
    ∀ (b : U8) (t : Bytes), s.pending = .read (b :: t) :: q →
      (∀ i rest, s.rxPhase = .hdr → s.rxHdr = [] → decode s.params .fh (b :: t) = .ok (i, rest) →
        step s = exec i { s with pending := if rest = [] then q else .read rest :: q }) ∧
      (∀ i rest, s.rxPhase = .csum → s.rxCs0 = none → decode s.params .ft (b :: t) = .ok (i, rest) →
        step s = exec i { s with pending := if rest = [] then q else .read rest :: q }) ∧
      ((∀ r, s.rxPhase = .hdr → s.rxHdr = [] → decode s.params .fh (b :: t) ≠ .ok r) →
        (∀ r, s.rxPhase = .csum → s.rxCs0 = none → decode s.params .ft (b :: t) ≠ .ok r) →
        step s = exec (.rxByte b) { s with pending := if t = [] then q else .read t :: q })

/-- R50, R92: taking the bytes of a `read` by words comes to the same as one `RX.BYTE` for each byte. -/
def Obligations.StreamByWordsIsStreamByBytes : Prop :=
  ∀ (bs : Bytes) (q : List Issue) (s : State), s.pending = .read bs :: q →
    ∃ n : Nat, 1 ≤ n ∧ n ≤ bs.length + 1 ∧
      Sys2Proof.core.run n s = execAll (rxBytesOps bs) { s with pending := q }

/-- A word of the table placed where the next step fetches it is run by that step, in front of it the unit
that takes it, and nothing of what the host had issued before is lost (notes/assumptions/5.md). -/
def Obligations.PlacedWordsRunNext : Prop :=
  ∀ (s : State) (nbits w : Nat) (i : Instr), decodeWord s.params nbits w = some i →
    step (s.withFetchWord nbits w) = exec i
      (match i.format with
      | .fh => atHeader s
      | .ft => atTrailer s
      | .ch => atChunk (leBytes 4 w) s
      | .port => s)
end

