-- ==== Sys2Proof/Laws/State.lean ====
section
/-! SUPPORT. One lemma for each field of the state under each named update, so that no proof unfolds a record
update. -/

namespace Sys2Proof.Machine

@[simp] theorem emit_crc (o : Output) (s : State) : (emit o s).crc = s.crc := rfl
@[simp] theorem emit_seq (o : Output) (s : State) : (emit o s).seq = s.seq := rfl
@[simp] theorem emit_ctrlId (o : Output) (s : State) : (emit o s).ctrlId = s.ctrlId := rfl
@[simp] theorem emit_rxPhase (o : Output) (s : State) : (emit o s).rxPhase = s.rxPhase := rfl
@[simp] theorem emit_rxHdr (o : Output) (s : State) : (emit o s).rxHdr = s.rxHdr := rfl
@[simp] theorem emit_rxPay (o : Output) (s : State) : (emit o s).rxPay = s.rxPay := rfl
@[simp] theorem emit_rxCs0 (o : Output) (s : State) : (emit o s).rxCs0 = s.rxCs0 := rfl
@[simp] theorem emit_rxCrc (o : Output) (s : State) : (emit o s).rxCrc = s.rxCrc := rfl
@[simp] theorem emit_tlvBuf (o : Output) (s : State) : (emit o s).tlvBuf = s.tlvBuf := rfl
@[simp] theorem emit_tlvCur (o : Output) (s : State) : (emit o s).tlvCur = s.tlvCur := rfl
@[simp] theorem emit_tlvActive (o : Output) (s : State) : (emit o s).tlvActive = s.tlvActive := rfl
@[simp] theorem emit_params (o : Output) (s : State) : (emit o s).params = s.params := rfl
@[simp] theorem emit_pending (o : Output) (s : State) : (emit o s).pending = s.pending := rfl
@[simp] theorem emit_trace (o : Output) (s : State) : (emit o s).trace = s.trace ++ [o] := rfl

@[simp] theorem setCrc_crc (v : U16) (s : State) : (setCrc v s).crc = v := rfl
@[simp] theorem setCrc_seq (v : U16) (s : State) : (setCrc v s).seq = s.seq := rfl
@[simp] theorem setCrc_ctrlId (v : U16) (s : State) : (setCrc v s).ctrlId = s.ctrlId := rfl
@[simp] theorem setCrc_rxPhase (v : U16) (s : State) : (setCrc v s).rxPhase = s.rxPhase := rfl
@[simp] theorem setCrc_rxHdr (v : U16) (s : State) : (setCrc v s).rxHdr = s.rxHdr := rfl
@[simp] theorem setCrc_rxPay (v : U16) (s : State) : (setCrc v s).rxPay = s.rxPay := rfl
@[simp] theorem setCrc_rxCs0 (v : U16) (s : State) : (setCrc v s).rxCs0 = s.rxCs0 := rfl
@[simp] theorem setCrc_rxCrc (v : U16) (s : State) : (setCrc v s).rxCrc = s.rxCrc := rfl
@[simp] theorem setCrc_tlvBuf (v : U16) (s : State) : (setCrc v s).tlvBuf = s.tlvBuf := rfl
@[simp] theorem setCrc_tlvCur (v : U16) (s : State) : (setCrc v s).tlvCur = s.tlvCur := rfl
@[simp] theorem setCrc_tlvActive (v : U16) (s : State) : (setCrc v s).tlvActive = s.tlvActive := rfl
@[simp] theorem setCrc_params (v : U16) (s : State) : (setCrc v s).params = s.params := rfl
@[simp] theorem setCrc_pending (v : U16) (s : State) : (setCrc v s).pending = s.pending := rfl
@[simp] theorem setCrc_trace (v : U16) (s : State) : (setCrc v s).trace = s.trace := rfl

@[simp] theorem setSeq_crc (v : U32) (s : State) : (setSeq v s).crc = s.crc := rfl
@[simp] theorem setSeq_seq (v : U32) (s : State) : (setSeq v s).seq = v := rfl
@[simp] theorem setSeq_ctrlId (v : U32) (s : State) : (setSeq v s).ctrlId = s.ctrlId := rfl
@[simp] theorem setSeq_rxPhase (v : U32) (s : State) : (setSeq v s).rxPhase = s.rxPhase := rfl
@[simp] theorem setSeq_rxHdr (v : U32) (s : State) : (setSeq v s).rxHdr = s.rxHdr := rfl
@[simp] theorem setSeq_rxPay (v : U32) (s : State) : (setSeq v s).rxPay = s.rxPay := rfl
@[simp] theorem setSeq_rxCs0 (v : U32) (s : State) : (setSeq v s).rxCs0 = s.rxCs0 := rfl
@[simp] theorem setSeq_rxCrc (v : U32) (s : State) : (setSeq v s).rxCrc = s.rxCrc := rfl
@[simp] theorem setSeq_tlvBuf (v : U32) (s : State) : (setSeq v s).tlvBuf = s.tlvBuf := rfl
@[simp] theorem setSeq_tlvCur (v : U32) (s : State) : (setSeq v s).tlvCur = s.tlvCur := rfl
@[simp] theorem setSeq_tlvActive (v : U32) (s : State) : (setSeq v s).tlvActive = s.tlvActive := rfl
@[simp] theorem setSeq_params (v : U32) (s : State) : (setSeq v s).params = s.params := rfl
@[simp] theorem setSeq_pending (v : U32) (s : State) : (setSeq v s).pending = s.pending := rfl
@[simp] theorem setSeq_trace (v : U32) (s : State) : (setSeq v s).trace = s.trace := rfl

@[simp] theorem rxClear_crc (s : State) : (rxClear s).crc = s.crc := rfl
@[simp] theorem rxClear_seq (s : State) : (rxClear s).seq = s.seq := rfl
@[simp] theorem rxClear_ctrlId (s : State) : (rxClear s).ctrlId = s.ctrlId := rfl
@[simp] theorem rxClear_rxPhase (s : State) : (rxClear s).rxPhase = .hdr := rfl
@[simp] theorem rxClear_rxHdr (s : State) : (rxClear s).rxHdr = [] := rfl
@[simp] theorem rxClear_rxPay (s : State) : (rxClear s).rxPay = [] := rfl
@[simp] theorem rxClear_rxCs0 (s : State) : (rxClear s).rxCs0 = none := rfl
@[simp] theorem rxClear_rxCrc (s : State) : (rxClear s).rxCrc = 0xFFFF := rfl
@[simp] theorem rxClear_tlvBuf (s : State) : (rxClear s).tlvBuf = s.tlvBuf := rfl
@[simp] theorem rxClear_tlvCur (s : State) : (rxClear s).tlvCur = s.tlvCur := rfl
@[simp] theorem rxClear_tlvActive (s : State) : (rxClear s).tlvActive = s.tlvActive := rfl
@[simp] theorem rxClear_params (s : State) : (rxClear s).params = s.params := rfl
@[simp] theorem rxClear_pending (s : State) : (rxClear s).pending = s.pending := rfl
@[simp] theorem rxClear_trace (s : State) : (rxClear s).trace = s.trace := rfl

@[simp] theorem rxPutHeader_crc (b : U8) (s : State) : (rxPutHeader b s).crc = s.crc := rfl
@[simp] theorem rxPutHeader_seq (b : U8) (s : State) : (rxPutHeader b s).seq = s.seq := rfl
@[simp] theorem rxPutHeader_ctrlId (b : U8) (s : State) : (rxPutHeader b s).ctrlId = s.ctrlId := rfl
@[simp] theorem rxPutHeader_rxPhase (b : U8) (s : State) : (rxPutHeader b s).rxPhase = if (s.rxHdr ++ [b]).length = headerLen then phaseAfterHeader (s.rxHdr ++ [b]) else s.rxPhase := rfl
@[simp] theorem rxPutHeader_rxHdr (b : U8) (s : State) : (rxPutHeader b s).rxHdr = s.rxHdr ++ [b] := rfl
@[simp] theorem rxPutHeader_rxPay (b : U8) (s : State) : (rxPutHeader b s).rxPay = s.rxPay := rfl
@[simp] theorem rxPutHeader_rxCs0 (b : U8) (s : State) : (rxPutHeader b s).rxCs0 = s.rxCs0 := rfl
@[simp] theorem rxPutHeader_rxCrc (b : U8) (s : State) : (rxPutHeader b s).rxCrc = crcUpd s.rxCrc b := rfl
@[simp] theorem rxPutHeader_tlvBuf (b : U8) (s : State) : (rxPutHeader b s).tlvBuf = s.tlvBuf := rfl
@[simp] theorem rxPutHeader_tlvCur (b : U8) (s : State) : (rxPutHeader b s).tlvCur = s.tlvCur := rfl
@[simp] theorem rxPutHeader_tlvActive (b : U8) (s : State) : (rxPutHeader b s).tlvActive = s.tlvActive := rfl
@[simp] theorem rxPutHeader_params (b : U8) (s : State) : (rxPutHeader b s).params = s.params := rfl
@[simp] theorem rxPutHeader_pending (b : U8) (s : State) : (rxPutHeader b s).pending = s.pending := rfl
@[simp] theorem rxPutHeader_trace (b : U8) (s : State) : (rxPutHeader b s).trace = s.trace := rfl

@[simp] theorem rxPutPayload_crc (b : U8) (s : State) : (rxPutPayload b s).crc = s.crc := rfl
@[simp] theorem rxPutPayload_seq (b : U8) (s : State) : (rxPutPayload b s).seq = s.seq := rfl
@[simp] theorem rxPutPayload_ctrlId (b : U8) (s : State) : (rxPutPayload b s).ctrlId = s.ctrlId := rfl
@[simp] theorem rxPutPayload_rxPhase (b : U8) (s : State) : (rxPutPayload b s).rxPhase = if (s.rxPay ++ [b]).length = s.rxPlen.toNat then .csum else s.rxPhase := rfl
@[simp] theorem rxPutPayload_rxHdr (b : U8) (s : State) : (rxPutPayload b s).rxHdr = s.rxHdr := rfl
@[simp] theorem rxPutPayload_rxPay (b : U8) (s : State) : (rxPutPayload b s).rxPay = s.rxPay ++ [b] := rfl
@[simp] theorem rxPutPayload_rxCs0 (b : U8) (s : State) : (rxPutPayload b s).rxCs0 = s.rxCs0 := rfl
@[simp] theorem rxPutPayload_rxCrc (b : U8) (s : State) : (rxPutPayload b s).rxCrc = crcUpd s.rxCrc b := rfl
@[simp] theorem rxPutPayload_tlvBuf (b : U8) (s : State) : (rxPutPayload b s).tlvBuf = s.tlvBuf := rfl
@[simp] theorem rxPutPayload_tlvCur (b : U8) (s : State) : (rxPutPayload b s).tlvCur = s.tlvCur := rfl
@[simp] theorem rxPutPayload_tlvActive (b : U8) (s : State) : (rxPutPayload b s).tlvActive = s.tlvActive := rfl
@[simp] theorem rxPutPayload_params (b : U8) (s : State) : (rxPutPayload b s).params = s.params := rfl
@[simp] theorem rxPutPayload_pending (b : U8) (s : State) : (rxPutPayload b s).pending = s.pending := rfl
@[simp] theorem rxPutPayload_trace (b : U8) (s : State) : (rxPutPayload b s).trace = s.trace := rfl

@[simp] theorem rxHoldLow_crc (b : U8) (s : State) : (rxHoldLow b s).crc = s.crc := rfl
@[simp] theorem rxHoldLow_seq (b : U8) (s : State) : (rxHoldLow b s).seq = s.seq := rfl
@[simp] theorem rxHoldLow_ctrlId (b : U8) (s : State) : (rxHoldLow b s).ctrlId = s.ctrlId := rfl
@[simp] theorem rxHoldLow_rxPhase (b : U8) (s : State) : (rxHoldLow b s).rxPhase = s.rxPhase := rfl
@[simp] theorem rxHoldLow_rxHdr (b : U8) (s : State) : (rxHoldLow b s).rxHdr = s.rxHdr := rfl
@[simp] theorem rxHoldLow_rxPay (b : U8) (s : State) : (rxHoldLow b s).rxPay = s.rxPay := rfl
@[simp] theorem rxHoldLow_rxCs0 (b : U8) (s : State) : (rxHoldLow b s).rxCs0 = some b := rfl
@[simp] theorem rxHoldLow_rxCrc (b : U8) (s : State) : (rxHoldLow b s).rxCrc = s.rxCrc := rfl
@[simp] theorem rxHoldLow_tlvBuf (b : U8) (s : State) : (rxHoldLow b s).tlvBuf = s.tlvBuf := rfl
@[simp] theorem rxHoldLow_tlvCur (b : U8) (s : State) : (rxHoldLow b s).tlvCur = s.tlvCur := rfl
@[simp] theorem rxHoldLow_tlvActive (b : U8) (s : State) : (rxHoldLow b s).tlvActive = s.tlvActive := rfl
@[simp] theorem rxHoldLow_params (b : U8) (s : State) : (rxHoldLow b s).params = s.params := rfl
@[simp] theorem rxHoldLow_pending (b : U8) (s : State) : (rxHoldLow b s).pending = s.pending := rfl
@[simp] theorem rxHoldLow_trace (b : U8) (s : State) : (rxHoldLow b s).trace = s.trace := rfl

@[simp] theorem tlvFill_crc (p : Bytes) (s : State) : (tlvFill p s).crc = s.crc := rfl
@[simp] theorem tlvFill_seq (p : Bytes) (s : State) : (tlvFill p s).seq = s.seq := rfl
@[simp] theorem tlvFill_ctrlId (p : Bytes) (s : State) : (tlvFill p s).ctrlId = s.ctrlId := rfl
@[simp] theorem tlvFill_rxPhase (p : Bytes) (s : State) : (tlvFill p s).rxPhase = s.rxPhase := rfl
@[simp] theorem tlvFill_rxHdr (p : Bytes) (s : State) : (tlvFill p s).rxHdr = s.rxHdr := rfl
@[simp] theorem tlvFill_rxPay (p : Bytes) (s : State) : (tlvFill p s).rxPay = s.rxPay := rfl
@[simp] theorem tlvFill_rxCs0 (p : Bytes) (s : State) : (tlvFill p s).rxCs0 = s.rxCs0 := rfl
@[simp] theorem tlvFill_rxCrc (p : Bytes) (s : State) : (tlvFill p s).rxCrc = s.rxCrc := rfl
@[simp] theorem tlvFill_tlvBuf (p : Bytes) (s : State) : (tlvFill p s).tlvBuf = p := rfl
@[simp] theorem tlvFill_tlvCur (p : Bytes) (s : State) : (tlvFill p s).tlvCur = 0 := rfl
@[simp] theorem tlvFill_tlvActive (p : Bytes) (s : State) : (tlvFill p s).tlvActive = decide (0 < p.length) := rfl
@[simp] theorem tlvFill_params (p : Bytes) (s : State) : (tlvFill p s).params = s.params := rfl
@[simp] theorem tlvFill_pending (p : Bytes) (s : State) : (tlvFill p s).pending = s.pending := rfl
@[simp] theorem tlvFill_trace (p : Bytes) (s : State) : (tlvFill p s).trace = s.trace := rfl

@[simp] theorem tlvAdvance_crc (n : Nat) (s : State) : (tlvAdvance n s).crc = s.crc := rfl
@[simp] theorem tlvAdvance_seq (n : Nat) (s : State) : (tlvAdvance n s).seq = s.seq := rfl
@[simp] theorem tlvAdvance_ctrlId (n : Nat) (s : State) : (tlvAdvance n s).ctrlId = s.ctrlId := rfl
@[simp] theorem tlvAdvance_rxPhase (n : Nat) (s : State) : (tlvAdvance n s).rxPhase = s.rxPhase := rfl
@[simp] theorem tlvAdvance_rxHdr (n : Nat) (s : State) : (tlvAdvance n s).rxHdr = s.rxHdr := rfl
@[simp] theorem tlvAdvance_rxPay (n : Nat) (s : State) : (tlvAdvance n s).rxPay = s.rxPay := rfl
@[simp] theorem tlvAdvance_rxCs0 (n : Nat) (s : State) : (tlvAdvance n s).rxCs0 = s.rxCs0 := rfl
@[simp] theorem tlvAdvance_rxCrc (n : Nat) (s : State) : (tlvAdvance n s).rxCrc = s.rxCrc := rfl
@[simp] theorem tlvAdvance_tlvBuf (n : Nat) (s : State) : (tlvAdvance n s).tlvBuf = s.tlvBuf := rfl
@[simp] theorem tlvAdvance_tlvCur (n : Nat) (s : State) : (tlvAdvance n s).tlvCur = s.tlvCur + 4 + n := rfl
@[simp] theorem tlvAdvance_tlvActive (n : Nat) (s : State) : (tlvAdvance n s).tlvActive = decide (s.tlvCur + 4 + n < s.tlvBuf.length) := rfl
@[simp] theorem tlvAdvance_params (n : Nat) (s : State) : (tlvAdvance n s).params = s.params := rfl
@[simp] theorem tlvAdvance_pending (n : Nat) (s : State) : (tlvAdvance n s).pending = s.pending := rfl
@[simp] theorem tlvAdvance_trace (n : Nat) (s : State) : (tlvAdvance n s).trace = s.trace := rfl

@[simp] theorem tlvHalt_crc (s : State) : (tlvHalt s).crc = s.crc := rfl
@[simp] theorem tlvHalt_seq (s : State) : (tlvHalt s).seq = s.seq := rfl
@[simp] theorem tlvHalt_ctrlId (s : State) : (tlvHalt s).ctrlId = s.ctrlId := rfl
@[simp] theorem tlvHalt_rxPhase (s : State) : (tlvHalt s).rxPhase = s.rxPhase := rfl
@[simp] theorem tlvHalt_rxHdr (s : State) : (tlvHalt s).rxHdr = s.rxHdr := rfl
@[simp] theorem tlvHalt_rxPay (s : State) : (tlvHalt s).rxPay = s.rxPay := rfl
@[simp] theorem tlvHalt_rxCs0 (s : State) : (tlvHalt s).rxCs0 = s.rxCs0 := rfl
@[simp] theorem tlvHalt_rxCrc (s : State) : (tlvHalt s).rxCrc = s.rxCrc := rfl
@[simp] theorem tlvHalt_tlvBuf (s : State) : (tlvHalt s).tlvBuf = s.tlvBuf := rfl
@[simp] theorem tlvHalt_tlvCur (s : State) : (tlvHalt s).tlvCur = s.tlvCur := rfl
@[simp] theorem tlvHalt_tlvActive (s : State) : (tlvHalt s).tlvActive = false := rfl
@[simp] theorem tlvHalt_params (s : State) : (tlvHalt s).params = s.params := rfl
@[simp] theorem tlvHalt_pending (s : State) : (tlvHalt s).pending = s.pending := rfl
@[simp] theorem tlvHalt_trace (s : State) : (tlvHalt s).trace = s.trace := rfl

@[simp] theorem setPending_crc (q : List Issue) (s : State) : (setPending q s).crc = s.crc := rfl
@[simp] theorem setPending_seq (q : List Issue) (s : State) : (setPending q s).seq = s.seq := rfl
@[simp] theorem setPending_ctrlId (q : List Issue) (s : State) : (setPending q s).ctrlId = s.ctrlId := rfl
@[simp] theorem setPending_rxPhase (q : List Issue) (s : State) : (setPending q s).rxPhase = s.rxPhase := rfl
@[simp] theorem setPending_rxHdr (q : List Issue) (s : State) : (setPending q s).rxHdr = s.rxHdr := rfl
@[simp] theorem setPending_rxPay (q : List Issue) (s : State) : (setPending q s).rxPay = s.rxPay := rfl
@[simp] theorem setPending_rxCs0 (q : List Issue) (s : State) : (setPending q s).rxCs0 = s.rxCs0 := rfl
@[simp] theorem setPending_rxCrc (q : List Issue) (s : State) : (setPending q s).rxCrc = s.rxCrc := rfl
@[simp] theorem setPending_tlvBuf (q : List Issue) (s : State) : (setPending q s).tlvBuf = s.tlvBuf := rfl
@[simp] theorem setPending_tlvCur (q : List Issue) (s : State) : (setPending q s).tlvCur = s.tlvCur := rfl
@[simp] theorem setPending_tlvActive (q : List Issue) (s : State) : (setPending q s).tlvActive = s.tlvActive := rfl
@[simp] theorem setPending_params (q : List Issue) (s : State) : (setPending q s).params = s.params := rfl
@[simp] theorem setPending_pending (q : List Issue) (s : State) : (setPending q s).pending = q := rfl
@[simp] theorem setPending_trace (q : List Issue) (s : State) : (setPending q s).trace = s.trace := rfl

@[simp] theorem resetElements_crc (s : State) : (resetElements s).crc = 0xFFFF := rfl
@[simp] theorem resetElements_seq (s : State) : (resetElements s).seq = 0 := rfl
@[simp] theorem resetElements_ctrlId (s : State) : (resetElements s).ctrlId = s.params.controllerId := rfl
@[simp] theorem resetElements_rxPhase (s : State) : (resetElements s).rxPhase = .hdr := rfl
@[simp] theorem resetElements_rxHdr (s : State) : (resetElements s).rxHdr = [] := rfl
@[simp] theorem resetElements_rxPay (s : State) : (resetElements s).rxPay = [] := rfl
@[simp] theorem resetElements_rxCs0 (s : State) : (resetElements s).rxCs0 = none := rfl
@[simp] theorem resetElements_rxCrc (s : State) : (resetElements s).rxCrc = 0xFFFF := rfl
@[simp] theorem resetElements_tlvBuf (s : State) : (resetElements s).tlvBuf = [] := rfl
@[simp] theorem resetElements_tlvCur (s : State) : (resetElements s).tlvCur = 0 := rfl
@[simp] theorem resetElements_tlvActive (s : State) : (resetElements s).tlvActive = false := rfl
@[simp] theorem resetElements_params (s : State) : (resetElements s).params = s.params := rfl
@[simp] theorem resetElements_pending (s : State) : (resetElements s).pending = s.pending := rfl
@[simp] theorem resetElements_trace (s : State) : (resetElements s).trace = s.trace := rfl

end Sys2Proof.Machine
end

