-- ==== Sys2Proof/Laws/Wire.lean ====
section
/-! SUPPORT. Lemmas about the byte order and the wire formats of Decode.lean. -/

namespace Sys2Proof

@[simp] theorem leBytes_length (n v : Nat) : (leBytes n v).length = n := by
  induction n generalizing v with
  | zero => rfl
  | succ n ih => simp [leBytes, ih]

@[simp] theorem le16_length (v : U16) : (le16 v).length = 2 := leBytes_length ..

@[simp] theorem le32_length (v : U32) : (le32 v).length = 4 := leBytes_length ..

@[simp] theorem magicBytes_length : magicBytes.length = 4 := rfl

@[simp] theorem encHeader_length (seq src dst : U32) (fn len : U16) :
    (encHeader seq src dst fn len).length = 20 := by
  simp [encHeader]

@[simp] theorem encChunkHeader_length (id tag : U8) (size : U16) : (encChunkHeader id tag size).length = 4 := by
  simp [encChunkHeader]

theorem leNat_lt (s : Bytes) : leNat s < 256 ^ s.length := by
  induction s with
  | nil => simp [leNat]
  | cons b t ih =>
    have hb := b.isLt
    simp only [leNat, List.length_cons, Nat.pow_succ]
    omega

theorem leNat_leBytes (n v : Nat) : leNat (leBytes n v) = v % 256 ^ n := by
  induction n generalizing v with
  | zero => simp [leBytes, leNat, Nat.mod_one]
  | succ n ih =>
    have h : v % 256 ^ (n + 1) = v % 256 + 256 * (v / 256 % 256 ^ n) := by
      rw [Nat.pow_succ, Nat.mul_comm, Nat.mod_mul]
    simp [leBytes, leNat, ih, h]

theorem leBytes_leNat (s : Bytes) : leBytes s.length (leNat s) = s := by
  induction s with
  | nil => rfl
  | cons b t ih =>
    have hb := b.isLt
    have h1 : (b.toNat + 256 * leNat t) / 256 = leNat t := by omega
    have h2 : BitVec.ofNat 8 (b.toNat + 256 * leNat t) = b := by
      apply BitVec.eq_of_toNat_eq
      simp only [BitVec.toNat_ofNat]
      omega
    simp [leBytes, leNat, h1, h2, ih]

/-- Two wire bytes of a 16-bit field, spelled out (R53). -/
theorem le16_eq (v : U16) : le16 v = [v.extractLsb' 0 8, v.extractLsb' 8 8] := by
  have h : v.toNat / 256 = v.toNat >>> 8 := by rw [Nat.shiftRight_eq_div_pow]
  simp [le16, leBytes, BitVec.extractLsb', h]

/-- Four wire bytes of a 32-bit field, spelled out (R53). -/
theorem le32_eq (v : U32) :
    le32 v = [v.extractLsb' 0 8, v.extractLsb' 8 8, v.extractLsb' 16 8, v.extractLsb' 24 8] := by
  simp [le32, leBytes, BitVec.extractLsb', Nat.shiftRight_eq_div_pow, Nat.div_div_eq_div_mul]

theorem leAt_lt (s : Bytes) (off n : Nat) : leAt s off n < 256 ^ n := by
  refine lt_of_lt_of_le (leNat_lt _) (Nat.pow_le_pow_right (by decide) ?_)
  simp [slice]

@[simp] theorem field16_toNat (s : Bytes) (off : Nat) : (field16 s off).toNat = leAt s off 2 := by
  have := leAt_lt s off 2
  simp only [field16, BitVec.toNat_ofNat]
  exact Nat.mod_eq_of_lt this

@[simp] theorem field32_toNat (s : Bytes) (off : Nat) : (field32 s off).toNat = leAt s off 4 := by
  have := leAt_lt s off 4
  simp only [field32, BitVec.toNat_ofNat]
  exact Nat.mod_eq_of_lt this

/-- Reading a field back out of a word that holds it between `pre` and `post` (R85: the encoder is the exact
inverse). -/
theorem field16_le16 (pre post : Bytes) (v : U16) : field16 (pre ++ (le16 v ++ post)) pre.length = v := by
  have hv := v.isLt
  apply BitVec.eq_of_toNat_eq
  simpa [leAt, slice, le16, leNat_leBytes] using hv

theorem field32_le32 (pre post : Bytes) (v : U32) : field32 (pre ++ (le32 v ++ post)) pre.length = v := by
  have hv := v.isLt
  apply BitVec.eq_of_toNat_eq
  simpa [leAt, slice, le32, leNat_leBytes] using hv

theorem fnName_code (f : FnName) : fnName f.code = some f := by cases f <;> rfl

theorem code_of_fnName {v : U16} {f : FnName} (h : fnName v = some f) : f.code = v := by
  apply BitVec.eq_of_toNat_eq
  unfold fnName at h
  split at h <;> simp_all <;> subst h <;> simp [FnName.code]

/-- The tag that decodes to a variant is that variant's (R7: `TAGMAP` is injective). -/
theorem tagOf_of_dtype {m : TagMap} {t : U8} {d : DType} (h : m.dtype t = some d) : m.tagOf d = t := by
  unfold TagMap.dtype at h
  split at h
  · cases h; simp_all [TagMap.tagOf]
  · split at h
    · cases h; simp_all [TagMap.tagOf]
    · split at h
      · cases h
      · simpa using List.find?_some h

theorem TagMap.toList_eq_map (m : TagMap) : m.toList = DType.unnumbered.map m.tagOf := rfl

theorem mem_unnumbered {d : DType} (h : d ≠ .noneType) (h' : d ≠ .cardRange) : d ∈ DType.unnumbered := by
  cases d <;> simp_all [DType.unnumbered]

/-- Under legal parameters every variant is the meaning of its tag (R82). -/
theorem dtype_tagOf {m : TagMap} (h : m.wf = true) (d : DType) : m.dtype (m.tagOf d) = some d := by
  by_cases h0 : d = .noneType
  · subst h0; rfl
  by_cases h1 : d = .cardRange
  · subst h1; rfl
  have hd := mem_unnumbered h0 h1
  simp only [TagMap.wf, TagMap.inRange, TagMap.distinct, Bool.and_eq_true, List.all_eq_true, decide_eq_true_eq,
    TagMap.toList_eq_map] at h
  have hr := h.1 _ (List.mem_map_of_mem hd)
  have e0 : m.tagOf d ≠ 0 := by rintro e; simp [e] at hr
  have e1 : m.tagOf d ≠ 21 := by rintro e; simp [e] at hr
  have e2 : ¬ 21 < (m.tagOf d).toNat := by omega
  simp only [TagMap.dtype, e0, e1, e2, if_false]
  cases hf : DType.unnumbered.find? (fun d' => m.tagOf d' == m.tagOf d) with
  | none => exact absurd (List.find?_eq_none.1 hf d hd) (by simp)
  | some d' =>
    have ht : m.tagOf d' = m.tagOf d := by simpa using List.find?_some hf
    rw [List.inj_on_of_nodup_map (of_decide_eq_true h.2) (List.mem_of_find?_eq_some hf) hd ht]

end Sys2Proof
end

