-- ==== Sys2Proof/Laws/Ops.lean ====
section
/-! SUPPORT. For each shared operation, what it can do, said once; and the lemmas about the checksum, the
slices and the buffers that proofs cite. -/

namespace Sys2Proof.Machine

/-! ### The checksum -/

theorem crcFold_append (r : U16) (s t : Bytes) : crcFold r (s ++ t) = crcFold (crcFold r s) t := by
  induction s generalizing r with
  | nil => rfl
  | cons b s ih => exact ih (crcUpd r b)

theorem crcFold_snoc (r : U16) (s : Bytes) (b : U8) : crcFold r (s ++ [b]) = crcUpd (crcFold r s) b :=
  crcFold_append r s [b]

theorem crcDefLoop_append (r : U16) (s t : Bytes) : crcDefLoop r (s ++ t) = crcDefLoop (crcDefLoop r s) t := by
  induction s generalizing r with
  | nil => rfl
  | cons b s ih => exact ih _

/-! ### Elements -/

theorem slices_length (w n : Nat) (bs : Bytes) : (slices w n bs).length = n := by
  induction n generalizing bs with
  | zero => rfl
  | succ n ih => simp [slices, ih]

theorem slices_succ (w n : Nat) (bs : Bytes) : slices w (n + 1) bs = bs.take w :: slices w n (bs.drop w) := rfl

/-! ### Errors -/

/-- The TX entry rule (R201): nothing but the event. -/
theorem raiseError_tx (e : TxEvent) (s : State) : raiseError (.txEvt e) s = emit (.txEvt e) s := rfl

/-- The RX entry rule (R202): the unit is emptied. -/
theorem raiseError_rx (e : RxEvent) (s : State) : raiseError (.rxEvt e) s = rxClear (emit (.rxEvt e) s) := rfl

/-- The TLV entry rule (R203): a truncated chunk halts, any other event steps over the chunk. -/
theorem raiseError_tlv (e : TlvEvent) (s : State) :
    (∃ off n, e = .truncatedHeader off n ∧ raiseError (.tlvEvt e) s = tlvHalt (emit (.tlvEvt e) s)) ∨
    (∃ off id tag size n, e = .truncatedValue off id tag size n ∧
      raiseError (.tlvEvt e) s = tlvHalt (emit (.tlvEvt e) s)) ∨
    (∃ n, raiseError (.tlvEvt e) s = tlvAdvance n (emit (.tlvEvt e) s)) := by
  cases e with
  | truncatedHeader off n => exact .inl ⟨off, n, rfl, rfl⟩
  | truncatedValue off id tag size n => exact .inr (.inl ⟨off, id, tag, size, n, rfl, rfl⟩)
  | chunk off id tag size d raw es => exact .inr (.inr ⟨size.toNat, rfl⟩)
  | unknownDataType off id tag size => exact .inr (.inr ⟨size.toNat, rfl⟩)
  | sizeMismatch off id tag size d w => exact .inr (.inr ⟨size.toNat, rfl⟩)

/-- A chunk that lies inside the payload moves the cursor by its length, whatever the verdict (R171). -/
theorem raiseError_chunkEvent (p : Bytes) (c : Nat) (id tag : U8) (size : U16) (d : Option DType) (s : State) :
    raiseError (.tlvEvt (chunkEvent p c id tag size d)) s =
      tlvAdvance size.toNat (emit (.tlvEvt (chunkEvent p c id tag size d)) s) := by
  cases d with
  | none => rfl
  | some d =>
    by_cases h : sizeOk d size.toNat = true
    · simp only [chunkEvent, h, if_true]; rfl
    · simp only [chunkEvent, h]; rfl

/-! ### The RX unit -/

theorem rxTake_hdr {b : U8} {s : State} (h : s.rxPhase = .hdr) : rxTake b s = rxPutHeader b s := by
  simp only [rxTake, h]

theorem rxTake_pay {b : U8} {s : State} (h : s.rxPhase = .pay) : rxTake b s = rxPutPayload b s := by
  simp only [rxTake, h]

theorem rxTake_low {b : U8} {s : State} (h : s.rxPhase = .csum) (h0 : s.rxCs0 = none) :
    rxTake b s = rxHoldLow b s := by
  simp only [rxTake, h, h0]

theorem rxTake_high {b c0 : U8} {s : State} (h : s.rxPhase = .csum) (h0 : s.rxCs0 = some c0) :
    rxTake b s = completeFrame c0 b s := by
  simp only [rxTake, h, h0]

/-- Everything `RX.BYTE` can do (R135). -/
theorem rxTake_cases (b : U8) (s : State) :
    (s.rxPhase = .hdr ∧ rxTake b s = rxPutHeader b s) ∨
    (s.rxPhase = .pay ∧ rxTake b s = rxPutPayload b s) ∨
    (s.rxPhase = .csum ∧ s.rxCs0 = none ∧ rxTake b s = rxHoldLow b s) ∨
    (∃ c0 e, s.rxPhase = .csum ∧ s.rxCs0 = some c0 ∧
      e = decodeFrame (headerRec s.rxHdr) s.rxPay [c0, b] ∧ rxTake b s = rxClear (emit (.rxEvt e) s)) := by
  cases hp : s.rxPhase with
  | hdr => exact .inl ⟨rfl, rxTake_hdr hp⟩
  | pay => exact .inr (.inl ⟨rfl, rxTake_pay hp⟩)
  | csum =>
    cases hc : s.rxCs0 with
    | none => exact .inr (.inr (.inl ⟨rfl, rfl, rxTake_low hp hc⟩))
    | some c0 => exact .inr (.inr (.inr ⟨c0, _, rfl, rfl, rfl, rxTake_high hp hc⟩))

theorem rxTakeAll_append (a b : Bytes) (s : State) : rxTakeAll (a ++ b) s = rxTakeAll b (rxTakeAll a s) := by
  induction a generalizing s with
  | nil => rfl
  | cons x a ih => exact ih (rxTake x s)

/-- What holds of a state and is kept by `RX.BYTE` is kept by `RX.BYTES`. -/
theorem rxTakeAll_keeps (P : State → Prop) (hP : ∀ b s, P s → P (rxTake b s)) (bs : Bytes) (s : State)
    (h : P s) : P (rxTakeAll bs s) := by
  induction bs generalizing s with
  | nil => exact h
  | cons b t ih => exact ih _ (hP b s h)

/-! ### The TLV unit -/

/-- Everything a `TLV.STEP` can do once the header is read (R171, R174). -/
theorem tlvTake_cases (id tag : U8) (size : U16) (d : Option DType) (s : State) :
    (s.tlvActive = false ∧ tlvTake id tag size d s = s) ∨
    (s.tlvActive = true ∧ s.tlvLen - s.tlvCur < 4 ∧ tlvTake id tag size d s =
      tlvHalt (emit (.tlvEvt (.truncatedHeader s.tlvCur (s.tlvLen - s.tlvCur))) s)) ∨
    (s.tlvActive = true ∧ 4 ≤ s.tlvLen - s.tlvCur ∧ s.tlvLen - s.tlvCur - 4 < size.toNat ∧
      tlvTake id tag size d s =
        tlvHalt (emit (.tlvEvt (.truncatedValue s.tlvCur id tag size (s.tlvLen - s.tlvCur - 4))) s)) ∨
    (s.tlvActive = true ∧ s.tlvCur + 4 + size.toNat ≤ s.tlvLen ∧ tlvTake id tag size d s =
      tlvAdvance size.toNat (emit (.tlvEvt (chunkEvent s.tlvBuf s.tlvCur id tag size d)) s)) := by
  cases ha : s.tlvActive with
  | false => exact .inl ⟨rfl, by simp [tlvTake, ha]⟩
  | true =>
    refine .inr ?_
    by_cases h4 : s.tlvLen - s.tlvCur < 4
    · exact .inl ⟨rfl, h4, by simp only [tlvTake, ha, h4, if_true]; rfl⟩
    · by_cases hv : s.tlvLen - s.tlvCur - 4 < size.toNat
      · exact .inr (.inl ⟨rfl, by omega, hv, by simp only [tlvTake, ha, h4, hv, if_true, if_false]; rfl⟩)
      · refine .inr (.inr ⟨rfl, by omega, ?_⟩)
        simp only [tlvTake, ha, h4, hv, if_true, if_false]
        exact raiseError_chunkEvent ..

/-! ### The buffers (the memory of this block) -/

/-- Emptying the RX unit keeps the buffers within their sizes. -/
theorem rxClear_memory_wf {s : State} (h : Memory.wf s = true) : Memory.wf (rxClear s) = true := by
  simp_all [Memory.wf]

/-- A header byte keeps the buffers within their sizes while the header is not complete (R32). -/
theorem rxPutHeader_memory_wf {s : State} (b : U8) (h : Memory.wf s = true) (hl : s.rxHdr.length ≤ 19) :
    Memory.wf (rxPutHeader b s) = true := by
  simp_all [Memory.wf]
  omega

/-- A payload byte keeps the buffers within their sizes while fewer than `RX_PLEN` bytes are held (R32). -/
theorem rxPutPayload_memory_wf {s : State} (b : U8) (h : Memory.wf s = true)
    (hl : s.rxPay.length < s.rxPlen.toNat) : Memory.wf (rxPutPayload b s) = true := by
  have := s.rxPlen.isLt
  simp_all [Memory.wf]
  omega

/-- Loading a payload keeps the buffers within their sizes (R170). -/
theorem tlvFill_memory_wf {s : State} (p : Payload) (h : Memory.wf s = true) :
    Memory.wf (tlvFill p.bytes s) = true := by
  have := p.fits
  simp_all [Memory.wf]

/-! ### Sequences -/

theorem execAll_cons {i : Instr} {is : List Instr} {s t : State} (h : exec i s = .next t) :
    execAll (i :: is) s = execAll is t := by
  simp only [execAll, h]

theorem execAll_append {a b : List Instr} {s t : State} (h : execAll a s = .next t) :
    execAll (a ++ b) s = execAll b t := by
  induction a generalizing s with
  | nil => cases h; rfl
  | cons i a ih =>
    simp only [execAll, List.cons_append] at h ⊢
    split at h
    · exact ih h
    · cases h
    · cases h

theorem execAll_rxBytesOps (bs : Bytes) (s : State) : execAll (rxBytesOps bs) s = .next (rxTakeAll bs s) := by
  induction bs generalizing s with
  | nil => rfl
  | cons b t ih => exact ih (rxTake b s)

theorem execAll_crcUpd (bs : Bytes) (s : State) :
    execAll (bs.map Instr.crcUpd) s = .next (setCrc (crcFold s.crc bs) s) := by
  induction bs generalizing s with
  | nil => rfl
  | cons b t ih => exact ih (setCrc (crcUpd s.crc b) s)

end Sys2Proof.Machine
end

