-- ==== Sys2Proof/Laws/PerInstr.lean ====
section
/-! SUPPORT. Statements about every instruction, one lemma for each constructor of `Instr`. -/

namespace Sys2Proof.Laws

/-- An instruction's encoding has the length of its format: 20, 2 or 4 bytes (R70, R71, R80), and an
operation has none (R90). -/
def EncodedLength.Statement (i : Instr) : Prop :=
  ∀ p : Params, (encode p i).length =
    match i.format with
    | .fh => 20
    | .ft => 2
    | .ch => 4
    | .port => 0

theorem EncodedLength.frameReqWhoami (seq src dst : U32) (plen : U16) :
    EncodedLength.Statement (.frameReqWhoami seq src dst plen) := fun _ => encHeader_length ..

theorem EncodedLength.frameRespWhoami (seq src dst : U32) (plen : U16) :
    EncodedLength.Statement (.frameRespWhoami seq src dst plen) := fun _ => encHeader_length ..

theorem EncodedLength.frameReqStatus (seq src dst : U32) (plen : U16) :
    EncodedLength.Statement (.frameReqStatus seq src dst plen) := fun _ => encHeader_length ..

theorem EncodedLength.frameRespStatus (seq src dst : U32) (plen : U16) :
    EncodedLength.Statement (.frameRespStatus seq src dst plen) := fun _ => encHeader_length ..

theorem EncodedLength.frameReqWriteData (seq src dst : U32) (plen : U16) :
    EncodedLength.Statement (.frameReqWriteData seq src dst plen) := fun _ => encHeader_length ..

theorem EncodedLength.frameRespWriteData (seq src dst : U32) (plen : U16) :
    EncodedLength.Statement (.frameRespWriteData seq src dst plen) := fun _ => encHeader_length ..

theorem EncodedLength.frameReqReadData (seq src dst : U32) (plen : U16) :
    EncodedLength.Statement (.frameReqReadData seq src dst plen) := fun _ => encHeader_length ..

theorem EncodedLength.frameRespReadData (seq src dst : U32) (plen : U16) :
    EncodedLength.Statement (.frameRespReadData seq src dst plen) := fun _ => encHeader_length ..

theorem EncodedLength.frameTrailer (c : U16) : EncodedLength.Statement (.frameTrailer c) := fun _ => le16_length ..

theorem EncodedLength.chunkNone (id : U8) (size : U16) :
    EncodedLength.Statement (.chunkNone id size) := fun _ => encChunkHeader_length ..

theorem EncodedLength.chunkI8 (id : U8) (size : U16) :
    EncodedLength.Statement (.chunkI8 id size) := fun _ => encChunkHeader_length ..

theorem EncodedLength.chunkU8 (id : U8) (size : U16) :
    EncodedLength.Statement (.chunkU8 id size) := fun _ => encChunkHeader_length ..

theorem EncodedLength.chunkI16 (id : U8) (size : U16) :
    EncodedLength.Statement (.chunkI16 id size) := fun _ => encChunkHeader_length ..

theorem EncodedLength.chunkU16 (id : U8) (size : U16) :
    EncodedLength.Statement (.chunkU16 id size) := fun _ => encChunkHeader_length ..

theorem EncodedLength.chunkI32 (id : U8) (size : U16) :
    EncodedLength.Statement (.chunkI32 id size) := fun _ => encChunkHeader_length ..

theorem EncodedLength.chunkU32 (id : U8) (size : U16) :
    EncodedLength.Statement (.chunkU32 id size) := fun _ => encChunkHeader_length ..

theorem EncodedLength.chunkF32 (id : U8) (size : U16) :
    EncodedLength.Statement (.chunkF32 id size) := fun _ => encChunkHeader_length ..

theorem EncodedLength.chunkF64 (id : U8) (size : U16) :
    EncodedLength.Statement (.chunkF64 id size) := fun _ => encChunkHeader_length ..

theorem EncodedLength.chunkString (id : U8) (size : U16) :
    EncodedLength.Statement (.chunkString id size) := fun _ => encChunkHeader_length ..

theorem EncodedLength.chunkArrI8 (id : U8) (size : U16) :
    EncodedLength.Statement (.chunkArrI8 id size) := fun _ => encChunkHeader_length ..

theorem EncodedLength.chunkArrU8 (id : U8) (size : U16) :
    EncodedLength.Statement (.chunkArrU8 id size) := fun _ => encChunkHeader_length ..

theorem EncodedLength.chunkArrI16 (id : U8) (size : U16) :
    EncodedLength.Statement (.chunkArrI16 id size) := fun _ => encChunkHeader_length ..

theorem EncodedLength.chunkArrU16 (id : U8) (size : U16) :
    EncodedLength.Statement (.chunkArrU16 id size) := fun _ => encChunkHeader_length ..

theorem EncodedLength.chunkArrI32 (id : U8) (size : U16) :
    EncodedLength.Statement (.chunkArrI32 id size) := fun _ => encChunkHeader_length ..

theorem EncodedLength.chunkArrU32 (id : U8) (size : U16) :
    EncodedLength.Statement (.chunkArrU32 id size) := fun _ => encChunkHeader_length ..

theorem EncodedLength.chunkArrF32 (id : U8) (size : U16) :
    EncodedLength.Statement (.chunkArrF32 id size) := fun _ => encChunkHeader_length ..

theorem EncodedLength.chunkArrF64 (id : U8) (size : U16) :
    EncodedLength.Statement (.chunkArrF64 id size) := fun _ => encChunkHeader_length ..

theorem EncodedLength.chunkCardUid (id : U8) (size : U16) :
    EncodedLength.Statement (.chunkCardUid id size) := fun _ => encChunkHeader_length ..

theorem EncodedLength.chunkArrCardUid (id : U8) (size : U16) :
    EncodedLength.Statement (.chunkArrCardUid id size) := fun _ => encChunkHeader_length ..

theorem EncodedLength.chunkCardRange (id : U8) (size : U16) :
    EncodedLength.Statement (.chunkCardRange id size) := fun _ => encChunkHeader_length ..

theorem EncodedLength.crcInit : EncodedLength.Statement (.crcInit) := fun _ => rfl

theorem EncodedLength.crcUpd (b : U8) : EncodedLength.Statement (.crcUpd b) := fun _ => rfl

theorem EncodedLength.txEnc (seq src dst : U32) (fn : U16) (payload : Bytes) : EncodedLength.Statement (.txEnc seq src dst fn payload) := fun _ => rfl

theorem EncodedLength.txReq (dst : U32) (fn : U16) (payload : Bytes) : EncodedLength.Statement (.txReq dst fn payload) := fun _ => rfl

theorem EncodedLength.rxByte (b : U8) : EncodedLength.Statement (.rxByte b) := fun _ => rfl

theorem EncodedLength.rxEob : EncodedLength.Statement (.rxEob) := fun _ => rfl

theorem EncodedLength.tlvLoad (p : Payload) : EncodedLength.Statement (.tlvLoad p) := fun _ => rfl

theorem EncodedLength.tlvStep : EncodedLength.Statement (.tlvStep) := fun _ => rfl

theorem EncodedLength.reset : EncodedLength.Statement (.reset) := fun _ => rfl

end Sys2Proof.Laws
end

