-- ==== Sys2Proof/Tests/Slice0.lean ====
section
/-! SUPPORT. The model's own tests. Expected values come from 95_test_vectors.md (the vector is named in a
test's docstring) or are read off the spec's field tables by hand. The second half holds, for every statement
that has hypotheses, a concrete state and operands that meet them. -/

set_option maxRecDepth 20000

namespace Sys2Proof.Machine.Tests

/-- The reset state with the parameters of the spec's vectors. -/
def ref : State := State.reset

/-- The state after a sequence of instructions, if none stops. -/
def after (is : List Instr) (s : State) : Option State :=
  match execAll is s with
  | .next t => some t
  | _ => none

/-- The instruction a word decodes to under `TAGMAP_REF`, if it is a whole word of its row. -/
def word (f : Format) (bs : Bytes) : Option Instr :=
  match decode Config.referenceParams f bs with
  | .ok (i, []) => some i
  | _ => none

/-- Whether an outcome is a next state. -/
def goesOn (o : Host.Outcome State Fault Refusal) : Bool :=
  match o with
  | .next _ => true
  | _ => false

/-- A chunk's payload loaded, the cursor at its start. -/
def loaded (p : Bytes) : State := tlvFill p ref

/-- The TLV unit's answer: what it emitted, the cursor and whether it is active. -/
def tlvAnswer (s : State) : List TlvEvent × Nat × Bool := (tlvEvtOf s.trace, s.tlvCur, s.tlvActive)

/-- The source's example frame (V-FRM-1). -/
def frame1 : Bytes :=
  [0x41, 0x55, 0x52, 0x41, 0x01, 0x00, 0x00, 0x00, 0xD2, 0x04, 0x00, 0x00, 0x00, 0x00, 0x00, 0x00,
   0x01, 0x00, 0x00, 0x00, 0x34, 0x0D]

/-- V-FRM-9's header, payload and trailer. -/
def header9 : Bytes :=
  [0x41, 0x55, 0x52, 0x41, 0x03, 0x00, 0x00, 0x00, 0xD2, 0x04, 0x00, 0x00, 0x44, 0x33, 0x22, 0x11,
   0x07, 0x00, 0x06, 0x00]

/-- V-FRM-9's payload. -/
def payload9 : Bytes := [0x07, 0x15, 0x02, 0x00, 0x00, 0x0A]

/-- V-FRM-9, 28 bytes. -/
def frame9 : Bytes := header9 ++ payload9 ++ [0x4F, 0xA1]

/-- The RX unit after V-FRM-1's header: `CSUM`, nothing held. -/
def atCsum : State := rxTakeAll (frame1.take 20) ref

/-- The RX unit after V-FRM-9's header and five of its six payload bytes. -/
def atLastPay : State := rxTakeAll (frame9.take 25) ref

/-! ### Well-formedness refuses what is ill formed -/

/-- R82: 0 is NONE's tag, so no other variant may have it. -/
theorem test_wf_refuses_tag_zero : (TagMap.inRange { Config.tagMapRef with i8 := 0 }) = false := by decide

/-- R82: 21 is CARD_RANGE's tag and above it nothing is assigned. -/
theorem test_wf_refuses_tag_above_twenty :
    (TagMap.inRange { Config.tagMapRef with arrCardUid := 21 }) = false := by decide

/-- Two variants with one tag. -/
theorem test_wf_refuses_shared_tag : (TagMap.distinct { Config.tagMapRef with i8 := 2 }) = false := by decide

/-- Tag maps with either fault are refused whole. -/
theorem test_wf_refuses_bad_maps :
    TagMap.wf { Config.tagMapRef with i8 := 0 } = false ∧ TagMap.wf { Config.tagMapRef with i8 := 2 } = false ∧
    TagMap.wf Config.tagMapRef = true := by decide

/-- A chunk row is ill formed where its tag is no tag; `NONE` and `CARD_RANGE` have theirs always. -/
theorem test_wf_refuses_chunk_rows :
    Instr.wf ⟨1, { Config.tagMapRef with i8 := 0 }⟩ (.chunkI8 1 1) = false ∧
    Instr.wf ⟨1, { Config.tagMapRef with i8 := 2 }⟩ (.chunkU8 1 1) = false ∧
    Instr.wf ⟨1, { Config.tagMapRef with i8 := 0 }⟩ (.chunkNone 1 1) = true ∧
    Instr.wf ⟨1, { Config.tagMapRef with i8 := 0 }⟩ (.chunkCardRange 1 1) = true := by decide

/-! ### Decoding: a word of every row that has bits -/

/-- FRAME.REQ_WHOAMI (R265), the fields at their offsets in R70, low byte first. -/
theorem test_decode_frameReqWhoami :
    word .fh [0x41, 0x55, 0x52, 0x41, 0x04, 0x03, 0x02, 0x01, 0x14, 0x13, 0x12, 0x11, 0x24, 0x23, 0x22, 0x21,
      0x01, 0x00, 0x32, 0x31] =
      some (.frameReqWhoami 0x01020304 0x11121314 0x21222324 0x3132) := by decide

/-- FRAME.RESP_WHOAMI (R266), the fields at their offsets in R70, low byte first. -/
theorem test_decode_frameRespWhoami :
    word .fh [0x41, 0x55, 0x52, 0x41, 0x04, 0x03, 0x02, 0x01, 0x14, 0x13, 0x12, 0x11, 0x24, 0x23, 0x22, 0x21,
      0x02, 0x00, 0x32, 0x31] =
      some (.frameRespWhoami 0x01020304 0x11121314 0x21222324 0x3132) := by decide

/-- FRAME.REQ_STATUS (R267), the fields at their offsets in R70, low byte first. -/
theorem test_decode_frameReqStatus :
    word .fh [0x41, 0x55, 0x52, 0x41, 0x04, 0x03, 0x02, 0x01, 0x14, 0x13, 0x12, 0x11, 0x24, 0x23, 0x22, 0x21,
      0x03, 0x00, 0x32, 0x31] =
      some (.frameReqStatus 0x01020304 0x11121314 0x21222324 0x3132) := by decide

/-- FRAME.RESP_STATUS (R268), the fields at their offsets in R70, low byte first. -/
theorem test_decode_frameRespStatus :
    word .fh [0x41, 0x55, 0x52, 0x41, 0x04, 0x03, 0x02, 0x01, 0x14, 0x13, 0x12, 0x11, 0x24, 0x23, 0x22, 0x21,
      0x04, 0x00, 0x32, 0x31] =
      some (.frameRespStatus 0x01020304 0x11121314 0x21222324 0x3132) := by decide

/-- FRAME.REQ_WRITE_DATA (R269), the fields at their offsets in R70, low byte first. -/
theorem test_decode_frameReqWriteData :
    word .fh [0x41, 0x55, 0x52, 0x41, 0x04, 0x03, 0x02, 0x01, 0x14, 0x13, 0x12, 0x11, 0x24, 0x23, 0x22, 0x21,
      0x05, 0x00, 0x32, 0x31] =
      some (.frameReqWriteData 0x01020304 0x11121314 0x21222324 0x3132) := by decide

/-- FRAME.RESP_WRITE_DATA (R270), the fields at their offsets in R70, low byte first. -/
theorem test_decode_frameRespWriteData :
    word .fh [0x41, 0x55, 0x52, 0x41, 0x04, 0x03, 0x02, 0x01, 0x14, 0x13, 0x12, 0x11, 0x24, 0x23, 0x22, 0x21,
      0x06, 0x00, 0x32, 0x31] =
      some (.frameRespWriteData 0x01020304 0x11121314 0x21222324 0x3132) := by decide

/-- FRAME.REQ_READ_DATA (R271), the fields at their offsets in R70, low byte first. -/
theorem test_decode_frameReqReadData :
    word .fh [0x41, 0x55, 0x52, 0x41, 0x04, 0x03, 0x02, 0x01, 0x14, 0x13, 0x12, 0x11, 0x24, 0x23, 0x22, 0x21,
      0x07, 0x00, 0x32, 0x31] =
      some (.frameReqReadData 0x01020304 0x11121314 0x21222324 0x3132) := by decide

/-- FRAME.RESP_READ_DATA (R272), the fields at their offsets in R70, low byte first. -/
theorem test_decode_frameRespReadData :
    word .fh [0x41, 0x55, 0x52, 0x41, 0x04, 0x03, 0x02, 0x01, 0x14, 0x13, 0x12, 0x11, 0x24, 0x23, 0x22, 0x21,
      0x08, 0x00, 0x32, 0x31] =
      some (.frameRespReadData 0x01020304 0x11121314 0x21222324 0x3132) := by decide

/-- FRAME.TRAILER (R71), low byte first. -/
theorem test_decode_frameTrailer : word .ft [0x34, 0x0D] = some (.frameTrailer 0x0D34) := by decide

/-- CHUNK.NONE (R240): tag 0 under `TAGMAP_REF`, `id` first, `size` low byte first (R80). -/
theorem test_decode_chunkNone : word .ch [0xA5, 0x00, 0x34, 0x12] = some (.chunkNone 0xA5 0x1234) := by decide

/-- CHUNK.I8 (R241): tag 1 under `TAGMAP_REF`, `id` first, `size` low byte first (R80). -/
theorem test_decode_chunkI8 : word .ch [0xA5, 0x01, 0x34, 0x12] = some (.chunkI8 0xA5 0x1234) := by decide

/-- CHUNK.U8 (R242): tag 2 under `TAGMAP_REF`, `id` first, `size` low byte first (R80). -/
theorem test_decode_chunkU8 : word .ch [0xA5, 0x02, 0x34, 0x12] = some (.chunkU8 0xA5 0x1234) := by decide

/-- CHUNK.I16 (R243): tag 3 under `TAGMAP_REF`, `id` first, `size` low byte first (R80). -/
theorem test_decode_chunkI16 : word .ch [0xA5, 0x03, 0x34, 0x12] = some (.chunkI16 0xA5 0x1234) := by decide

/-- CHUNK.U16 (R244): tag 4 under `TAGMAP_REF`, `id` first, `size` low byte first (R80). -/
theorem test_decode_chunkU16 : word .ch [0xA5, 0x04, 0x34, 0x12] = some (.chunkU16 0xA5 0x1234) := by decide

/-- CHUNK.I32 (R245): tag 5 under `TAGMAP_REF`, `id` first, `size` low byte first (R80). -/
theorem test_decode_chunkI32 : word .ch [0xA5, 0x05, 0x34, 0x12] = some (.chunkI32 0xA5 0x1234) := by decide

/-- CHUNK.U32 (R246): tag 6 under `TAGMAP_REF`, `id` first, `size` low byte first (R80). -/
theorem test_decode_chunkU32 : word .ch [0xA5, 0x06, 0x34, 0x12] = some (.chunkU32 0xA5 0x1234) := by decide

/-- CHUNK.F32 (R247): tag 7 under `TAGMAP_REF`, `id` first, `size` low byte first (R80). -/
theorem test_decode_chunkF32 : word .ch [0xA5, 0x07, 0x34, 0x12] = some (.chunkF32 0xA5 0x1234) := by decide

/-- CHUNK.F64 (R248): tag 8 under `TAGMAP_REF`, `id` first, `size` low byte first (R80). -/
theorem test_decode_chunkF64 : word .ch [0xA5, 0x08, 0x34, 0x12] = some (.chunkF64 0xA5 0x1234) := by decide

/-- CHUNK.STRING (R249): tag 9 under `TAGMAP_REF`, `id` first, `size` low byte first (R80). -/
theorem test_decode_chunkString : word .ch [0xA5, 0x09, 0x34, 0x12] = some (.chunkString 0xA5 0x1234) := by decide

/-- CHUNK.ARR_I8 (R250): tag 10 under `TAGMAP_REF`, `id` first, `size` low byte first (R80). -/
theorem test_decode_chunkArrI8 : word .ch [0xA5, 0x0A, 0x34, 0x12] = some (.chunkArrI8 0xA5 0x1234) := by decide

/-- CHUNK.ARR_U8 (R251): tag 11 under `TAGMAP_REF`, `id` first, `size` low byte first (R80). -/
theorem test_decode_chunkArrU8 : word .ch [0xA5, 0x0B, 0x34, 0x12] = some (.chunkArrU8 0xA5 0x1234) := by decide

/-- CHUNK.ARR_I16 (R252): tag 12 under `TAGMAP_REF`, `id` first, `size` low byte first (R80). -/
theorem test_decode_chunkArrI16 : word .ch [0xA5, 0x0C, 0x34, 0x12] = some (.chunkArrI16 0xA5 0x1234) := by decide

/-- CHUNK.ARR_U16 (R253): tag 13 under `TAGMAP_REF`, `id` first, `size` low byte first (R80). -/
theorem test_decode_chunkArrU16 : word .ch [0xA5, 0x0D, 0x34, 0x12] = some (.chunkArrU16 0xA5 0x1234) := by decide

/-- CHUNK.ARR_I32 (R254): tag 14 under `TAGMAP_REF`, `id` first, `size` low byte first (R80). -/
theorem test_decode_chunkArrI32 : word .ch [0xA5, 0x0E, 0x34, 0x12] = some (.chunkArrI32 0xA5 0x1234) := by decide

/-- CHUNK.ARR_U32 (R255): tag 15 under `TAGMAP_REF`, `id` first, `size` low byte first (R80). -/
theorem test_decode_chunkArrU32 : word .ch [0xA5, 0x0F, 0x34, 0x12] = some (.chunkArrU32 0xA5 0x1234) := by decide

/-- CHUNK.ARR_F32 (R256): tag 16 under `TAGMAP_REF`, `id` first, `size` low byte first (R80). -/
theorem test_decode_chunkArrF32 : word .ch [0xA5, 0x10, 0x34, 0x12] = some (.chunkArrF32 0xA5 0x1234) := by decide

/-- CHUNK.ARR_F64 (R257): tag 17 under `TAGMAP_REF`, `id` first, `size` low byte first (R80). -/
theorem test_decode_chunkArrF64 : word .ch [0xA5, 0x11, 0x34, 0x12] = some (.chunkArrF64 0xA5 0x1234) := by decide

/-- CHUNK.CARD_UID (R258): tag 18 under `TAGMAP_REF`, `id` first, `size` low byte first (R80). -/
theorem test_decode_chunkCardUid : word .ch [0xA5, 0x12, 0x34, 0x12] = some (.chunkCardUid 0xA5 0x1234) := by decide

/-- CHUNK.ARR_CARD_UID (R259): tag 19 under `TAGMAP_REF`, `id` first, `size` low byte first (R80). -/
theorem test_decode_chunkArrCardUid : word .ch [0xA5, 0x13, 0x34, 0x12] = some (.chunkArrCardUid 0xA5 0x1234) := by decide

/-- CHUNK.CARD_RANGE (R260): tag 21 under `TAGMAP_REF`, `id` first, `size` low byte first (R80). -/
theorem test_decode_chunkCardRange : word .ch [0xA5, 0x15, 0x34, 0x12] = some (.chunkCardRange 0xA5 0x1234) := by decide

/-- What no row has: a short word, a foreign magic (R73), an unnamed function (R75), an unassigned tag (R82),
and an operation's bits (R90). -/
theorem test_decode_refuses :
    word .fh (frame1.take 19) = none ∧
    word .fh [0x41, 0x55, 0x52, 0x61, 0, 0, 0, 0, 0, 0, 0, 0, 0, 0, 0, 0, 1, 0, 0, 0] = none ∧
    word .fh [0x41, 0x55, 0x52, 0x41, 0, 0, 0, 0, 0, 0, 0, 0, 0, 0, 0, 0, 0, 0, 0, 0] = none ∧
    word .fh [0x41, 0x55, 0x52, 0x41, 0, 0, 0, 0, 0, 0, 0, 0, 0, 0, 0, 0, 1, 1, 0, 0] = none ∧
    word .ch [0x01, 0x14, 0x02, 0x00] = none ∧ word .ch [0x01, 0x16, 0x02, 0x00] = none ∧
    word .port [0x00] = none := by decide

/-- The operations are selected by port and name (R12, R90). -/
theorem test_ports :
    PortOp.port .crcInit = .crcCmd ∧ PortOp.port (.crcUpd 1) = .crcCmd ∧
    PortOp.port (.txEnc 1 1 1 1 []) = .txCmd ∧ PortOp.port (.txReq 1 1 []) = .txCmd ∧
    PortOp.port (.rxByte 1) = .rxIn ∧ PortOp.port .rxEob = .rxEob ∧
    PortOp.port (.tlvLoad ⟨[], by decide⟩) = .tlvCmd ∧ PortOp.port .tlvStep = .tlvCmd ∧
    PortOp.port .reset = .reset := by decide

/-- L1-1: the example header as the integer of R70, and under the row's mask. -/
theorem test_headerInt :
    headerInt frame1 = 0x0000000100000000000004D20000000141525541 ∧
    headerInt frame1 &&& 0x0000FFFF000000000000000000000000FFFFFFFF =
      0x0000000100000000000000000000000041525541 := by decide

/-- The match words of opcode_table.json decode, and run as the next step. -/
theorem test_table_words :
    decodeTableWord 160 0x0000000800000000000000000000000041525541 = some (.frameRespReadData 0 0 0 0) ∧
    decodeTableWord 32 0x00001500 = some (.chunkCardRange 0 0) ∧
    decodeTableWord 16 0 = some (.frameTrailer 0) ∧
    goesOn (step (State.reset.withFetchWord 160 0x0000000800000000000000000000000041525541)) = true ∧
    goesOn (step (State.reset.withFetchWord 32 0x00001500)) = true ∧
    goesOn (step (State.reset.withFetchWord 16 0)) = true := by decide

/-! ### The checksum and the CRC unit -/

/-- V-CRC-1, 2, 3, 4, 8, 9 and 6. -/
theorem test_crc16_vectors :
    crc16 [] = 0xFFFF ∧ crc16 [0x00] = 0x40BF ∧ crc16 [0x01] = 0x807E ∧ crc16 [0xFF] = 0x00FF ∧
    crc16 [0xFF, 0xFF] = 0x0000 ∧ crc16 [0x80] = 0xE0BE ∧
    crc16 [0x31, 0x32, 0x33, 0x34, 0x35, 0x36, 0x37, 0x38, 0x39] = 0x4B37 := by decide

/-- V-CRC-10 in the definitional form, with the reversals it names. -/
theorem test_crc16Def_vector :
    crc16Def [0x41] = 0x707F ∧ rev8 0x41 = 0x82 ∧ rev16 0x707F = 0xFE0E := by decide

/-- The table form on V-CRC-10's byte. -/
theorem test_crcUpdByTable : crcUpdByTable 0xFFFF 0x41 = 0x707F := by decide

/-- V-CRC-OP-1. -/
theorem test_crcInit : (after [.crcInit] (setCrc 0x1234 ref)).map (·.crc) = some 0xFFFF := by decide

/-- V-CRC-OP-2, with V-CRC-OP-4: `RX_CRC` is another register. -/
theorem test_crcUpd :
    (after [.crcInit, .crcUpd 0x41, .crcUpd 0x55, .crcUpd 0x52, .crcUpd 0x41] ref).map
      (fun s => (s.crc, s.rxCrc)) = some (0x58F9, 0xFFFF) := by decide

/-! ### The TX unit -/

/-- V-FRM-4: every byte distinct. -/
theorem test_txEnc :
    (after [.txEnc 0x01020304 0x0A0B0C0D 0x11121314 0x2122 [0x31, 0x32, 0x33]] ref).map (fun s => txOutOf s.trace) =
    some [0x41, 0x55, 0x52, 0x41, 0x04, 0x03, 0x02, 0x01, 0x0D, 0x0C, 0x0B, 0x0A, 0x14, 0x13, 0x12, 0x11,
      0x22, 0x21, 0x03, 0x00, 0x31, 0x32, 0x33, 0x7D, 0xE6] := by decide

/-- V-FRM-7. -/
theorem test_txReq :
    (after [.txReq 0 1 []] ref).map (fun s => (s.seq, txOutOf s.trace)) = some (1, frame1) := by decide

/-- V-FRM-10: the counter wraps. -/
theorem test_txReq_wraps :
    (after [whoamiOp 0] (setSeq 0xFFFFFFFF ref)).map (fun s => (s.seq, (txOutOf s.trace).drop 20)) =
    some (0, [0xF5, 0x9D]) := by decide

/-! ### The RX unit -/

/-- The state trace of V-RX-1 after bytes 19 and 20. -/
theorem test_rxByte_phases :
    (atCsum.rxPhase, atCsum.rxHdr.length, atCsum.rxCs0, atCsum.rxCrc) = (.csum, 20, none, 0x0D34) ∧
    (after [.rxByte 0x34] atCsum).map (fun s => (s.rxPhase, s.rxCs0, s.rxCrc)) =
      some (.csum, some 0x34, 0x0D34) := by decide

/-- V-RX-2. -/
theorem test_rxByte_frame :
    (after (rxBytesOps frame9) ref).map (fun s => rxEvtOf s.trace) =
    some [.frame ⟨3, 1234, 0x11223344, 7, 6⟩ payload9 0xA14F] := by decide

/-- V-RX-14. -/
theorem test_rxEob_truncated :
    (after [.rxEob] (rxTakeAll (frame9.take 23) ref)).map (fun s => (rxEvtOf s.trace, s.rxHdr)) =
    some ([.truncatedFrame [0x41, 0x55, 0x52, 0x41] ⟨3, 1234, 0x11223344, 7, 6⟩ 3 8], []) := by decide

/-- V-RX-9. -/
theorem test_rxEob_empty :
    (after [.rxEob] ref).map (fun s => rxEvtOf s.trace) = some [.malformedHeader 0] := by decide

/-- V-RX-5 and V-RX-1, by the trailer word. -/
theorem test_frameTrailer :
    (after [.frameTrailer 0x0C34] atCsum).map (fun s => rxEvtOf s.trace) =
      some [.checksumMismatch ⟨1, 1234, 0, 1, 0⟩ 0x0C34 0x0D34] ∧
    (after [.frameTrailer 0x0D34] atCsum).map (fun s => rxEvtOf s.trace) =
      some [.frame ⟨1, 1234, 0, 1, 0⟩ [] 0x0D34] := by decide

/-- V-RX-8: both faults, the magic wins. -/
theorem test_badMagic_wins :
    rxBurst (0x61 :: frame1.drop 1) =
    [.badMagic [0x61, 0x55, 0x52, 0x41] ⟨1, 1234, 0, 1, 0⟩ 0x0D34 0x6AB3, .malformedHeader 0] := by decide

/-- FRAME.REQ_WHOAMI (R265): `function` is 1; the fields land in the views of R27. -/
theorem test_frameReqWhoami :
    (after [.frameReqWhoami 1 1234 9 5] ref).map (fun s => (s.rxPhase, s.rxFn, s.rxSeq, s.rxSrc, s.rxDst, s.rxPlen)) =
    some (.pay, 1, 1, 1234, 9, 5) := by decide

/-- FRAME.RESP_WHOAMI (R266): `function` is 2; the fields land in the views of R27. -/
theorem test_frameRespWhoami :
    (after [.frameRespWhoami 1 1234 9 5] ref).map (fun s => (s.rxPhase, s.rxFn, s.rxSeq, s.rxSrc, s.rxDst, s.rxPlen)) =
    some (.pay, 2, 1, 1234, 9, 5) := by decide

/-- FRAME.REQ_STATUS (R267): `function` is 3; the fields land in the views of R27. -/
theorem test_frameReqStatus :
    (after [.frameReqStatus 1 1234 9 5] ref).map (fun s => (s.rxPhase, s.rxFn, s.rxSeq, s.rxSrc, s.rxDst, s.rxPlen)) =
    some (.pay, 3, 1, 1234, 9, 5) := by decide

/-- FRAME.RESP_STATUS (R268): `function` is 4; the fields land in the views of R27. -/
theorem test_frameRespStatus :
    (after [.frameRespStatus 1 1234 9 5] ref).map (fun s => (s.rxPhase, s.rxFn, s.rxSeq, s.rxSrc, s.rxDst, s.rxPlen)) =
    some (.pay, 4, 1, 1234, 9, 5) := by decide

/-- FRAME.REQ_WRITE_DATA (R269): `function` is 5; the fields land in the views of R27. -/
theorem test_frameReqWriteData :
    (after [.frameReqWriteData 1 1234 9 5] ref).map (fun s => (s.rxPhase, s.rxFn, s.rxSeq, s.rxSrc, s.rxDst, s.rxPlen)) =
    some (.pay, 5, 1, 1234, 9, 5) := by decide

/-- FRAME.RESP_WRITE_DATA (R270): `function` is 6; the fields land in the views of R27. -/
theorem test_frameRespWriteData :
    (after [.frameRespWriteData 1 1234 9 5] ref).map (fun s => (s.rxPhase, s.rxFn, s.rxSeq, s.rxSrc, s.rxDst, s.rxPlen)) =
    some (.pay, 6, 1, 1234, 9, 5) := by decide

/-- FRAME.REQ_READ_DATA (R271): `function` is 7; the fields land in the views of R27. -/
theorem test_frameReqReadData :
    (after [.frameReqReadData 1 1234 9 5] ref).map (fun s => (s.rxPhase, s.rxFn, s.rxSeq, s.rxSrc, s.rxDst, s.rxPlen)) =
    some (.pay, 7, 1, 1234, 9, 5) := by decide

/-- FRAME.RESP_READ_DATA (R272): `function` is 8; the fields land in the views of R27. -/
theorem test_frameRespReadData :
    (after [.frameRespReadData 1 1234 9 5] ref).map (fun s => (s.rxPhase, s.rxFn, s.rxSeq, s.rxSrc, s.rxDst, s.rxPlen)) =
    some (.pay, 8, 1, 1234, 9, 5) := by decide

/-! ### The TLV unit: one good chunk per variant (V-TLV-1 to V-TLV-21) -/

/-- V-TLV-1. -/
theorem test_chunkNone :
    (after [.chunkNone 0x10 0] (loaded [0x10, 0x00, 0x00, 0x00])).map tlvAnswer =
    some ([.chunk 0 0x10 0 0 .noneType []
      []], 4, false) := by decide

/-- V-TLV-2. -/
theorem test_chunkI8 :
    (after [.chunkI8 0x11 1] (loaded [0x11, 0x01, 0x01, 0x00, 0xFF])).map tlvAnswer =
    some ([.chunk 0 0x11 1 1 .i8 [0xFF]
      [[0xFF]]], 5, false) := by decide

/-- V-TLV-3. -/
theorem test_chunkU8 :
    (after [.chunkU8 0x12 1] (loaded [0x12, 0x02, 0x01, 0x00, 0xFF])).map tlvAnswer =
    some ([.chunk 0 0x12 2 1 .u8 [0xFF]
      [[0xFF]]], 5, false) := by decide

/-- V-TLV-4. -/
theorem test_chunkI16 :
    (after [.chunkI16 0x13 2] (loaded [0x13, 0x03, 0x02, 0x00, 0xFE, 0xFF])).map tlvAnswer =
    some ([.chunk 0 0x13 3 2 .i16 [0xFE, 0xFF]
      [[0xFE, 0xFF]]], 6, false) := by decide

/-- V-TLV-5. -/
theorem test_chunkU16 :
    (after [.chunkU16 0x14 2] (loaded [0x14, 0x04, 0x02, 0x00, 0x34, 0x12])).map tlvAnswer =
    some ([.chunk 0 0x14 4 2 .u16 [0x34, 0x12]
      [[0x34, 0x12]]], 6, false) := by decide

/-- V-TLV-6. -/
theorem test_chunkI32 :
    (after [.chunkI32 0x15 4] (loaded [0x15, 0x05, 0x04, 0x00, 0x00, 0x00, 0x00, 0x80])).map tlvAnswer =
    some ([.chunk 0 0x15 5 4 .i32 [0x00, 0x00, 0x00, 0x80]
      [[0x00, 0x00, 0x00, 0x80]]], 8, false) := by decide

/-- V-TLV-7. -/
theorem test_chunkU32 :
    (after [.chunkU32 0x16 4] (loaded [0x16, 0x06, 0x04, 0x00, 0x78, 0x56, 0x34, 0x12])).map tlvAnswer =
    some ([.chunk 0 0x16 6 4 .u32 [0x78, 0x56, 0x34, 0x12]
      [[0x78, 0x56, 0x34, 0x12]]], 8, false) := by decide

/-- V-TLV-8. -/
theorem test_chunkF32 :
    (after [.chunkF32 0x17 4] (loaded [0x17, 0x07, 0x04, 0x00, 0x00, 0x00, 0xA0, 0x41])).map tlvAnswer =
    some ([.chunk 0 0x17 7 4 .f32 [0x00, 0x00, 0xA0, 0x41]
      [[0x00, 0x00, 0xA0, 0x41]]], 8, false) := by decide

/-- V-TLV-9. -/
theorem test_chunkF64 :
    (after [.chunkF64 0x18 8] (loaded [0x18, 0x08, 0x08, 0x00, 0x00, 0x00, 0x00, 0x00, 0x00, 0x00, 0x34, 0x40])).map tlvAnswer =
    some ([.chunk 0 0x18 8 8 .f64 [0x00, 0x00, 0x00, 0x00, 0x00, 0x00, 0x34, 0x40]
      [[0x00, 0x00, 0x00, 0x00, 0x00, 0x00, 0x34, 0x40]]], 12, false) := by decide

/-- V-TLV-10. -/
theorem test_chunkString :
    (after [.chunkString 0x19 4] (loaded [0x19, 0x09, 0x04, 0x00, 0x41, 0x55, 0x52, 0x41])).map tlvAnswer =
    some ([.chunk 0 0x19 9 4 .string [0x41, 0x55, 0x52, 0x41]
      [[0x41], [0x55], [0x52], [0x41]]], 8, false) := by decide

/-- V-TLV-11. -/
theorem test_chunkArrI8 :
    (after [.chunkArrI8 0x1A 3] (loaded [0x1A, 0x0A, 0x03, 0x00, 0x01, 0xFF, 0x80])).map tlvAnswer =
    some ([.chunk 0 0x1A 10 3 .arrI8 [0x01, 0xFF, 0x80]
      [[0x01], [0xFF], [0x80]]], 7, false) := by decide

/-- V-TLV-12. -/
theorem test_chunkArrU8 :
    (after [.chunkArrU8 0x1B 3] (loaded [0x1B, 0x0B, 0x03, 0x00, 0x01, 0xFF, 0x80])).map tlvAnswer =
    some ([.chunk 0 0x1B 11 3 .arrU8 [0x01, 0xFF, 0x80]
      [[0x01], [0xFF], [0x80]]], 7, false) := by decide

/-- V-TLV-13. -/
theorem test_chunkArrI16 :
    (after [.chunkArrI16 0x1C 4] (loaded [0x1C, 0x0C, 0x04, 0x00, 0xFF, 0xFF, 0x00, 0x80])).map tlvAnswer =
    some ([.chunk 0 0x1C 12 4 .arrI16 [0xFF, 0xFF, 0x00, 0x80]
      [[0xFF, 0xFF], [0x00, 0x80]]], 8, false) := by decide

/-- V-TLV-14. -/
theorem test_chunkArrU16 :
    (after [.chunkArrU16 0x1D 8] (loaded [0x1D, 0x0D, 0x08, 0x00, 0x01, 0x00, 0x02, 0x00, 0x03, 0x00, 0x04, 0x00])).map tlvAnswer =
    some ([.chunk 0 0x1D 13 8 .arrU16 [0x01, 0x00, 0x02, 0x00, 0x03, 0x00, 0x04, 0x00]
      [[0x01, 0x00], [0x02, 0x00], [0x03, 0x00], [0x04, 0x00]]], 12, false) := by decide

/-- V-TLV-15. -/
theorem test_chunkArrI32 :
    (after [.chunkArrI32 0x1E 8] (loaded [0x1E, 0x0E, 0x08, 0x00, 0xFF, 0xFF, 0xFF, 0xFF, 0x01, 0x00, 0x00, 0x00])).map tlvAnswer =
    some ([.chunk 0 0x1E 14 8 .arrI32 [0xFF, 0xFF, 0xFF, 0xFF, 0x01, 0x00, 0x00, 0x00]
      [[0xFF, 0xFF, 0xFF, 0xFF], [0x01, 0x00, 0x00, 0x00]]], 12, false) := by decide

/-- V-TLV-16. -/
theorem test_chunkArrU32 :
    (after [.chunkArrU32 0x1F 8] (loaded [0x1F, 0x0F, 0x08, 0x00, 0xFF, 0xFF, 0xFF, 0xFF, 0x01, 0x00, 0x00, 0x00])).map tlvAnswer =
    some ([.chunk 0 0x1F 15 8 .arrU32 [0xFF, 0xFF, 0xFF, 0xFF, 0x01, 0x00, 0x00, 0x00]
      [[0xFF, 0xFF, 0xFF, 0xFF], [0x01, 0x00, 0x00, 0x00]]], 12, false) := by decide

/-- V-TLV-17. -/
theorem test_chunkArrF32 :
    (after [.chunkArrF32 0x20 8] (loaded [0x20, 0x10, 0x08, 0x00, 0x00, 0x00, 0xA0, 0x41, 0x00, 0x00, 0x5C, 0x42])).map tlvAnswer =
    some ([.chunk 0 0x20 16 8 .arrF32 [0x00, 0x00, 0xA0, 0x41, 0x00, 0x00, 0x5C, 0x42]
      [[0x00, 0x00, 0xA0, 0x41], [0x00, 0x00, 0x5C, 0x42]]], 12, false) := by decide

/-- V-TLV-18. -/
theorem test_chunkArrF64 :
    (after [.chunkArrF64 0x21 16] (loaded [0x21, 0x11, 0x10, 0x00, 0x00, 0x00, 0x00, 0x00, 0x00, 0x00, 0x34, 0x40, 0x00, 0x00, 0x00, 0x00, 0x00, 0x00, 0x00, 0x80])).map tlvAnswer =
    some ([.chunk 0 0x21 17 16 .arrF64 [0x00, 0x00, 0x00, 0x00, 0x00, 0x00, 0x34, 0x40, 0x00, 0x00, 0x00, 0x00, 0x00, 0x00, 0x00, 0x80]
      [[0x00, 0x00, 0x00, 0x00, 0x00, 0x00, 0x34, 0x40], [0x00, 0x00, 0x00, 0x00, 0x00, 0x00, 0x00, 0x80]]], 20, false) := by decide

/-- V-TLV-19. -/
theorem test_chunkCardUid :
    (after [.chunkCardUid 0x22 8] (loaded [0x22, 0x12, 0x08, 0x00, 0x01, 0x02, 0x03, 0x04, 0x05, 0x06, 0x07, 0x08])).map tlvAnswer =
    some ([.chunk 0 0x22 18 8 .cardUid [0x01, 0x02, 0x03, 0x04, 0x05, 0x06, 0x07, 0x08]
      [[0x01, 0x02, 0x03, 0x04, 0x05, 0x06, 0x07, 0x08]]], 12, false) := by decide

/-- V-TLV-20. -/
theorem test_chunkArrCardUid :
    (after [.chunkArrCardUid 0x23 16] (loaded [0x23, 0x13, 0x10, 0x00, 0x01, 0x02, 0x03, 0x04, 0x05, 0x06, 0x07, 0x08, 0xAA, 0xAA, 0xAA, 0xAA, 0xAA, 0xAA, 0xAA, 0xAA])).map tlvAnswer =
    some ([.chunk 0 0x23 19 16 .arrCardUid [0x01, 0x02, 0x03, 0x04, 0x05, 0x06, 0x07, 0x08, 0xAA, 0xAA, 0xAA, 0xAA, 0xAA, 0xAA, 0xAA, 0xAA]
      [[0x01, 0x02, 0x03, 0x04, 0x05, 0x06, 0x07, 0x08], [0xAA, 0xAA, 0xAA, 0xAA, 0xAA, 0xAA, 0xAA, 0xAA]]], 20, false) := by decide

/-- V-TLV-21. -/
theorem test_chunkCardRange :
    (after [.chunkCardRange 0x07 2] (loaded [0x07, 0x15, 0x02, 0x00, 0x00, 0x0A])).map tlvAnswer =
    some ([.chunk 0 0x07 21 2 .cardRange [0x00, 0x0A]
      [[0x00, 0x0A]]], 6, false) := by decide

/-- V-TLV-23 by `TLV.STEP`s: the unknown chunk is skipped, the next is decoded. -/
theorem test_tlvStep_unknown :
    (after [.tlvStep, .tlvStep]
      (loaded [0x01, 0x14, 0x02, 0x00, 0xAA, 0xBB, 0x02, 0x02, 0x01, 0x00, 0x07])).map tlvAnswer =
    some ([.unknownDataType 0 1 20 2, .chunk 6 2 2 1 .u8 [0x07] [[0x07]]], 11, false) := by decide

/-- V-TLV-30: truncation outranks the unknown tag, and the cursor stays. -/
theorem test_tlvStep_truncated :
    (after [.tlvStep] (loaded [0x01, 0x63, 0x10, 0x00, 0xAA])).map (fun s => (tlvAnswer s, s.tlvStop)) =
    some (([.truncatedValue 0 1 99 16 1], 0, false), true) := by decide

/-- V-TLV-41: loading abandons the payload before. -/
theorem test_tlvLoad :
    (after [.tlvStep, .tlvLoad ⟨[0x07, 0x15, 0x02, 0x00, 0x00, 0x0A], by decide⟩]
      (loaded [0x01, 0x02, 0x01, 0x00, 0x07, 0x02, 0x02, 0x01, 0x00, 0x08])).map
      (fun s => (s.tlvBuf, s.tlvCur, s.tlvActive)) = some ([0x07, 0x15, 0x02, 0x00, 0x00, 0x0A], 0, true) := by decide

/-- V-TLV-22: an empty payload is never active. -/
theorem test_tlvLoad_empty :
    (after [.tlvLoad ⟨[], by decide⟩] ref).map tlvAnswer = some ([], 0, false) := by decide

/-- V-TLV-25 as a whole payload. -/
theorem test_decodeChunks :
    decodeChunks Config.tagMapRef [0x05, 0x04, 0x03, 0x00, 0x01, 0x02, 0x03, 0x06, 0x02, 0x01, 0x00, 0x09] =
    [.sizeMismatch 0 5 4 3 .u16 2, .chunk 7 6 2 1 .u8 [0x09] [[0x09]]] := by decide

/-- The readings of V-TLV-2, 3, 4, 6, 8 and 21. -/
theorem test_readings :
    readElem .i8 [0xFF] = .int (-1) ∧ readElem .u8 [0xFF] = .int 255 ∧ readElem .i16 [0xFE, 0xFF] = .int (-2) ∧
    readElem .i32 [0x00, 0x00, 0x00, 0x80] = .int (-2147483648) ∧
    readElem .f32 [0x00, 0x00, 0xA0, 0x41] = .pattern 4 0x41A00000 ∧
    readElem .cardRange [0x00, 0x0A] = .pair 0 10 := by decide

/-- R9's widenings. -/
theorem test_widenings :
    sext 16 (0x80#8) = 0xFF80 ∧ sext 16 (0x7F#8) = 0x007F ∧ zext 16 (0x80#8) = 0x0080 ∧ sint 8 0x80 = -128 := by
  decide

/-- R9's buffer primitives, low byte first. -/
theorem test_buffer_primitives :
    memRead frame1 8 4 = 1234 ∧ memWrite [0, 1, 2, 3, 4] 1 2 0xAABB = [0, 0xBB, 0xAA, 3, 4] := by decide

/-- The error numbers of R206. -/
theorem test_error_numbers :
    ErrorCode.noError.number = 0 ∧ ErrorCode.malformedHeader.number = 1 ∧ ErrorCode.checksumMismatch.number = 2 ∧
    ErrorCode.unknownDataType.number = 3 ∧ ErrorCode.unknownDeviceType.number = 4 ∧
    ErrorCode.badMagic.number = 5 ∧ ErrorCode.truncatedFrame.number = 6 ∧ ErrorCode.truncatedChunk.number = 7 ∧
    ErrorCode.sizeMismatch.number = 8 ∧ ErrorCode.payloadTooLong.number = 9 := by decide

/-! ### Reset -/

/-- V-RST-1. -/
theorem test_reset :
    after [.reset] { ref with
      crc := 0x58F9, seq := 7, rxPhase := .pay, rxHdr := header9, rxPay := [0x07, 0x15, 0x02]
      rxCrc := crcFold 0xFFFF (header9 ++ [0x07, 0x15, 0x02])
      tlvBuf := [0x01, 0x02, 0x01, 0x00, 0x07], tlvActive := true } = some ref := by decide

/-! ### Witnesses: for each statement with hypotheses, a state and operands that meet them -/

/-- A payload of the longest length, and one byte more (R119, R120). -/
theorem witness_payload_bounds :
    (List.replicate 65535 (0 : U8)).length ≤ 65535 ∧ ([] : Bytes).length ≤ 65535 ∧
    65535 < (List.replicate 65536 (0 : U8)).length := by
  simp only [List.length_replicate, List.length_nil]
  decide

/-- EveryInstructionKeepsTheInvariant, at the last header byte and at the last payload byte. -/
theorem witness_EveryInstructionKeepsTheInvariant :
    (State.inv (rxTakeAll (frame1.take 19) ref) ∧
      goesOn (exec (.rxByte 0) (rxTakeAll (frame1.take 19) ref)) = true) ∧
    State.inv atLastPay ∧ goesOn (exec (.rxByte 0x0A) atLastPay) = true := by decide

/-- EveryStepKeepsTheInvariant and ParametersNeverChange. -/
theorem witness_EveryStepKeepsTheInvariant :
    State.inv (setPending [.read frame1] ref) ∧ goesOn (step (setPending [.read frame1] ref)) = true ∧
    ref.ctrlId = ref.params.controllerId := by decide

/-- OnlyTheNamedOperationsWrite: each kind of element is written by some operation named. -/
theorem witness_OnlyTheNamedOperationsWrite :
    (after [.crcUpd 1] ref).map (·.crc == ref.crc) = some false ∧
    (after [.txReq 0 1 []] ref).map (·.seq == ref.seq) = some false ∧
    (after [.rxByte 1] ref).map (·.rxHdr == ref.rxHdr) = some false ∧
    (after [.rxByte 0x0A] atLastPay).map (fun t => (t.rxPhase == atLastPay.rxPhase, t.rxPay == atLastPay.rxPay,
      t.rxCrc == atLastPay.rxCrc)) = some (false, false, false) ∧
    (after [.rxByte 0x34] atCsum).map (·.rxCs0 == atCsum.rxCs0) = some false ∧
    (after [.tlvLoad ⟨[1], by decide⟩] ref).map (fun t => (t.tlvBuf == ref.tlvBuf, t.tlvActive == ref.tlvActive)) =
      some (false, false) ∧
    (after [.tlvStep] (loaded [0, 0, 0, 0])).map (·.tlvCur == 0) = some false := by decide

/-- UnitsWriteOnlyTheirOwnState: an instruction of each unit. -/
theorem witness_UnitsWriteOnlyTheirOwnState :
    unitOf (.crcUpd 1) = some .crc ∧ unitOf (.txReq 0 1 []) = some .tx ∧ unitOf .rxEob = some .rx ∧
    unitOf (.frameTrailer 1) = some .rx ∧ unitOf .tlvStep = some .tlv ∧ unitOf (.chunkU8 1 1) = some .tlv ∧
    goesOn (exec (.chunkU8 1 1) ref) = true ∧ goesOn (exec .rxEob ref) = true := by decide

/-- UnitsReadOnlyTheirOwnState: two states that differ in another unit's element. -/
theorem witness_UnitsReadOnlyTheirOwnState :
    unitOf .rxEob = some .rx ∧ State.sameUnit .rx ref (setCrc 7 ref) ∧ ref.params = (setCrc 7 ref).params ∧
    goesOn (exec .rxEob ref) = true ∧ goesOn (exec .rxEob (setCrc 7 ref)) = true := by
  refine ⟨by decide, ⟨rfl, rfl, rfl, rfl, rfl⟩, by decide, by decide, by decide⟩

/-- UnitsCommute: `TX.REQ` and `RX.EOB`, which both emit. -/
theorem witness_UnitsCommute :
    unitOf (.txReq 0 1 []) = some .tx ∧ unitOf .rxEob = some .rx ∧
    goesOn (execAll [.txReq 0 1 [], .rxEob] ref) = true ∧ goesOn (execAll [.rxEob, .txReq 0 1 []] ref) = true := by
  decide

/-- AFlippedBitIsAlwaysCaught: V-FRM-9, at its last bit. -/
theorem witness_AFlippedBitIsAlwaysCaught :
    header9.length = 20 ∧ wellFormedFrame (headerRec header9) payload9 [0x4F, 0xA1] = true ∧
    27 < header9.length + payload9.length + 2 := by decide

/-- EncodedFramesAreReceivedBack, ByteSerialReceptionIsRxBurst, HeaderWordsFillAnEmptyUnit. -/
theorem witness_rxEmpty : ref.rxEmpty := by decide

/-- RxByteFollowsThePhase and RxEobAbandonsTheFrameInFlight: a state in each case, at its boundary. -/
theorem witness_rx_phases :
    ((rxTakeAll (frame1.take 18) ref).rxPhase = .hdr ∧ (rxTakeAll (frame1.take 18) ref).rxHdr.length = 18) ∧
    ((rxTakeAll (frame1.take 19) ref).rxPhase = .hdr ∧ leAt (frame1.take 20) 18 2 = 0) ∧
    ((rxTakeAll (frame9.take 19) ref).rxPhase = .hdr ∧ leAt (frame9.take 20) 18 2 = 6) ∧
    (atLastPay.rxPhase = .pay ∧ atLastPay.rxPay.length + 1 = 6) ∧
    (atCsum.rxPhase = .csum ∧ atCsum.rxCs0 = none) ∧ (rxTake 0x34 atCsum).rxCs0 = some 0x34 := by decide

/-- RxCursorMovesOneByte: the second disjunct, at the last checksum byte. -/
theorem witness_RxCursorMovesOneByte :
    State.inv (rxTake 0x34 atCsum) ∧ (rxTake 0x34 atCsum).rxOffset = 21 ∧
    goesOn (exec (.rxByte 0x0D) (rxTake 0x34 atCsum)) = true := by decide

/-- ABurstOfWholeFrames: one good frame, one corrupted, one with an empty payload. -/
theorem witness_ABurstOfWholeFrames :
    ∀ f ∈ [(header9, payload9, [0x4F, 0xA1]), (header9, payload9, [0x4F, 0xA0]), (frame1.take 20, [], [0x34, 0x0D])],
      f.1.length = 20 ∧ f.2.1.length = leAt f.1 18 2 ∧ f.2.2.length = 2 := by decide

/-- TrailerWordCompletesTheFrame. -/
theorem witness_TrailerWordCompletesTheFrame : atCsum.rxPhase = .csum ∧ atCsum.rxCs0 = none := by decide

/-- FrameWordsAreTheirBytes: both formats. -/
theorem witness_FrameWordsAreTheirBytes :
    (Instr.frameReqStatus 1 1 1 1).format = .fh ∧ (Instr.frameTrailer 1).format = .ft := by decide

/-- TlvStepDecodesOneChunk: inactive; three bytes left; a value one byte short; a whole chunk. -/
theorem witness_TlvStepDecodesOneChunk :
    ref.tlvActive = false ∧ ((loaded [1, 2, 3]).tlvActive = true ∧ (loaded [1, 2, 3]).tlvBuf.length = 3) ∧
    (leAt (loaded [1, 2, 1, 0]).tlvBuf 2 2 = 1 ∧ (loaded [1, 2, 1, 0]).tlvBuf.length - 0 - 4 = 0) ∧
    (loaded [1, 2, 1, 0, 7]).tlvBuf.length - 0 - 4 = 1 := by decide

/-- TlvStepRunsTheChunkRow. -/
theorem witness_TlvStepRunsTheChunkRow :
    decode ref.params .ch ((loaded [1, 2, 1, 0, 7]).tlvBuf.drop 0) = .ok (.chunkU8 1 1, [7]) := rfl

/-- ScalarChunkRows: `size` 0, the width, and one more, the value ending where the payload ends. -/
theorem witness_ScalarChunkRows :
    (loaded [1, 4, 0, 0]).tlvActive = true ∧ 0 + 4 + (0 : U16).toNat ≤ (loaded [1, 4, 0, 0]).tlvBuf.length ∧
    0 + 4 + (2 : U16).toNat ≤ (loaded [1, 4, 2, 0, 7, 7]).tlvBuf.length ∧
    0 + 4 + (3 : U16).toNat ≤ (loaded [1, 4, 3, 0, 7, 7, 7]).tlvBuf.length := by decide

/-- ArrayChunkRows: `size` 0, two elements, and one byte more. -/
theorem witness_ArrayChunkRows :
    (loaded [1, 13, 0, 0]).tlvActive = true ∧ 0 + 4 + (0 : U16).toNat ≤ (loaded [1, 13, 0, 0]).tlvBuf.length ∧
    0 + 4 + (4 : U16).toNat ≤ (loaded [1, 13, 4, 0, 7, 7, 7, 7]).tlvBuf.length ∧
    0 + 4 + (5 : U16).toNat ≤ (loaded [1, 13, 5, 0, 7, 7, 7, 7, 7]).tlvBuf.length := by decide

/-- ChunkRowsHaltOnTruncation: inactive; three bytes left; four bytes left and `size` 1. -/
theorem witness_ChunkRowsHaltOnTruncation :
    ref.tlvActive = false ∧
    ((loaded [1, 2, 3]).tlvActive = true ∧ (loaded [1, 2, 3]).tlvBuf.length - 0 < 4) ∧
    ((loaded [1, 2, 1, 0]).tlvActive = true ∧ 4 ≤ (loaded [1, 2, 1, 0]).tlvBuf.length - 0 ∧
      (loaded [1, 2, 1, 0]).tlvBuf.length - 0 - 4 < (1 : U16).toNat) := by decide

/-- ChunkSizesAddUp: a payload without truncation, and one cut after its first chunk. -/
theorem witness_ChunkSizesAddUp :
    (∀ e ∈ decodeChunks Config.tagMapRef [1, 2, 1, 0, 7], isTruncated e = false) ∧
    decodeChunks Config.tagMapRef [1, 2, 1, 0, 7, 9] =
      [.chunk 0 1 2 1 .u8 [7] [[7]]] ++ .truncatedHeader 5 1 :: [] ∧
    isTruncated (.truncatedHeader 5 1) = true := by decide

/-- TlvStepsTerminate. -/
theorem witness_TlvStepsTerminate :
    State.inv (loaded [1, 2, 1, 0, 7]) ∧ (loaded [1, 2, 1, 0, 7]).tlvActive = true ∧
    goesOn (exec .tlvStep (loaded [1, 2, 1, 0, 7])) = true := by decide

/-- EncodedChunksAreDecodedBack: a `NONE` and an `ARR_U16` of two. -/
theorem witness_EncodedChunksAreDecodedBack :
    (∀ k ∈ [((1 : U8), (0 : U8), ([] : Bytes)), (2, 13, [1, 0, 2, 0])],
      ∃ d, Config.tagMapRef.dtype k.2.1 = some d ∧ sizeOk d k.2.2.length = true) ∧
    (encodeChunks [(1, 0, []), (2, 13, [1, 0, 2, 0])]).length ≤ 65535 := by
  refine ⟨?_, by decide⟩
  intro k hk
  simp only [List.mem_cons, List.not_mem_nil, or_false] at hk
  rcases hk with rfl | rfl
  · exact ⟨.noneType, by decide, by decide⟩
  · exact ⟨.arrU16, by decide, by decide⟩

/-- ElementsAreTheSlices and ReadingsAreInRangeAndInvertible: a kind of each reading, at a boundary. -/
theorem witness_elements :
    sizeOk .arrU16 4 = true ∧ sizeOk .noneType 0 = true ∧ sizeOk .cardUid 0 = true ∧ sizeOk .cardUid 8 = true ∧
    ([0x00, 0x80] : Bytes).length = dtypeWidth .i16 ∧ dtypeReading .i16 = .signed ∧
    ([0xFF, 0xFF] : Bytes).length = dtypeWidth .u16 ∧ dtypeReading .u16 = .unsigned := by decide

/-- ErrorsEnterByUnit: a TLV event of each kind. -/
theorem witness_ErrorsEnterByUnit :
    isTruncated (.truncatedValue 0 1 2 3 0) = true ∧ isTruncated (.sizeMismatch 0 1 4 3 .u16 2) = false := by decide

/-- DecodeEncodeAgree: every format that has words. -/
theorem witness_DecodeEncodeAgree :
    Instr.wf Config.referenceParams (.chunkArrF64 1 2) = true ∧ (Instr.chunkArrF64 1 2).format ≠ .port ∧
    Instr.wf Config.referenceParams (.frameReqStatus 1 2 3 4) = true ∧ (Instr.frameTrailer 1).format ≠ .port := by
  decide

/-- EncodeDecodeAgree. -/
theorem witness_EncodeDecodeAgree :
    decode Config.referenceParams .ft [0x34, 0x0D, 0x01] = .ok (.frameTrailer 0x0D34, [0x01]) := rfl

/-- RowsMatchTheirMask. -/
theorem witness_RowsMatchTheirMask :
    (frame1.take 20).length = 20 ∧ Params.wf Config.referenceParams = true ∧ ([1, 2, 1, 0] : Bytes).length = 4 := by
  decide

/-- TagSpaceIsAsConstrained: the first tag above 21, a tag of a variant, legal parameters. -/
theorem witness_TagSpaceIsAsConstrained :
    21 < (22 : U8).toNat ∧ Config.tagMapRef.dtype 4 = some .u16 ∧ Config.tagMapRef.wf = true := by decide

/-- StepRunsTheDecodedInstruction: nothing issued, an empty `read`, an operation. -/
theorem witness_StepRunsTheDecodedInstruction_issue :
    ref.pending = [] ∧ (setPending [.read []] ref).pending = .read [] :: [] ∧
    (setPending [.op .rxEob] ref).pending = .op .rxEob :: [] ∧ PortOp.rxEob ≠ .tlvStep := by decide

/-- StepRunsTheDecodedInstruction: `TLV.STEP` before a chunk word, before an unassigned tag, inactive. -/
theorem witness_StepRunsTheDecodedInstruction_chunk :
    ((setPending [.op .tlvStep] (loaded [1, 2, 1, 0, 7])).pending = .op .tlvStep :: [] ∧
      (loaded [1, 2, 1, 0, 7]).tlvActive = true ∧
      decode ref.params .ch ((loaded [1, 2, 1, 0, 7]).tlvBuf.drop 0) = .ok (.chunkU8 1 1, [7])) ∧
    ((loaded [1, 20, 1, 0, 7]).tlvActive = true ∧
      decode ref.params .ch ((loaded [1, 20, 1, 0, 7]).tlvBuf.drop 0) = .error (.unassignedTag 20)) ∧
    ref.tlvActive = false := ⟨⟨rfl, rfl, rfl⟩, ⟨rfl, rfl⟩, rfl⟩

/-- StepRunsTheDecodedInstruction: a header word, a trailer word, a trailer one byte short, a payload byte. -/
theorem witness_StepRunsTheDecodedInstruction_stream :
    (ref.rxPhase = .hdr ∧ ref.rxHdr = [] ∧
      decode ref.params .fh frame1 = .ok (.frameReqWhoami 1 1234 0 0, [0x34, 0x0D])) ∧
    (atCsum.rxPhase = .csum ∧ atCsum.rxCs0 = none ∧
      decode ref.params .ft [0x34, 0x0D] = .ok (.frameTrailer 0x0D34, [])) ∧
    decode ref.params .ft [0x34] = .error (.truncatedWord 1) ∧ atLastPay.rxPhase = .pay :=
  ⟨⟨rfl, rfl, rfl⟩, ⟨rfl, rfl, rfl⟩, rfl, rfl⟩

/-- StreamByWordsIsStreamByBytes: a whole frame waiting, and its first word taken. -/
theorem witness_StreamByWordsIsStreamByBytes :
    (setPending [.read frame1] ref).pending = .read frame1 :: [] ∧
    fetch (setPending [.read frame1] ref) = (some (.frameReqWhoami 1 1234 0 0), [.read [0x34, 0x0D]]) := by decide

/-- PlacedWordsRunNext: a word of each format. -/
theorem witness_PlacedWordsRunNext :
    decodeWord ref.params 160 0x0000000100000000000004D20000000141525541 = some (.frameReqWhoami 1 1234 0 0) ∧
    decodeWord ref.params 16 0x0D34 = some (.frameTrailer 0x0D34) ∧
    decodeWord ref.params 32 0x00021507 = some (.chunkCardRange 7 2) := by decide

end Sys2Proof.Machine.Tests
end

section
/-! # The scope of the block (00_scope.md)

The rows of the table by format, the outcome of every instruction, and what one step runs. -/

namespace Sys2Proof

/-! ### The rows of the table by format -/

/-- An instruction is a frame-header row, the trailer, a chunk-header row or a port operation (R5, R93): what
holds of these four families holds of every instruction. -/
theorem Instr.byFormat {P : Instr → Prop}
    (header : ∀ (f : FnName) (seq src dst : U32) (plen : U16), P (f.row seq src dst plen))
    (trailer : ∀ c : U16, P (.frameTrailer c))
    (chunk : ∀ (d : DType) (id : U8) (size : U16), P (d.row id size))
    (op : ∀ o : PortOp, P o.toInstr) (i : Instr) : P i := by
  cases i with
  | frameReqWhoami => exact header .reqWhoami ..
  | frameRespWhoami => exact header .respWhoami ..
  | frameReqStatus => exact header .reqStatus ..
  | frameRespStatus => exact header .respStatus ..
  | frameReqWriteData => exact header .reqWriteData ..
  | frameRespWriteData => exact header .respWriteData ..
  | frameReqReadData => exact header .reqReadData ..
  | frameRespReadData => exact header .respReadData ..
  | frameTrailer c => exact trailer c
  | chunkNone => exact chunk .noneType ..
  | chunkI8 => exact chunk .i8 ..
  | chunkU8 => exact chunk .u8 ..
  | chunkI16 => exact chunk .i16 ..
  | chunkU16 => exact chunk .u16 ..
  | chunkI32 => exact chunk .i32 ..
  | chunkU32 => exact chunk .u32 ..
  | chunkF32 => exact chunk .f32 ..
  | chunkF64 => exact chunk .f64 ..
  | chunkString => exact chunk .string ..
  | chunkArrI8 => exact chunk .arrI8 ..
  | chunkArrU8 => exact chunk .arrU8 ..
  | chunkArrI16 => exact chunk .arrI16 ..
  | chunkArrU16 => exact chunk .arrU16 ..
  | chunkArrI32 => exact chunk .arrI32 ..
  | chunkArrU32 => exact chunk .arrU32 ..
  | chunkArrF32 => exact chunk .arrF32 ..
  | chunkArrF64 => exact chunk .arrF64 ..
  | chunkCardUid => exact chunk .cardUid ..
  | chunkArrCardUid => exact chunk .arrCardUid ..
  | chunkCardRange => exact chunk .cardRange ..
  | crcInit => exact op .crcInit
  | crcUpd b => exact op (.crcUpd b)
  | txEnc seq src dst fn p => exact op (.txEnc seq src dst fn p)
  | txReq dst fn p => exact op (.txReq dst fn p)
  | rxByte b => exact op (.rxByte b)
  | rxEob => exact op .rxEob
  | tlvLoad p => exact op (.tlvLoad p)
  | tlvStep => exact op .tlvStep
  | reset => exact op .reset

end Sys2Proof

namespace Sys2Proof.Machine

/-! ### The meaning of each family -/

/-- A frame-header row is `RX.BYTES` of its twenty bytes (R92, R265 to R272). -/
@[simp] theorem exec_headerRow (f : FnName) (seq src dst : U32) (plen : U16) (s : State) :
    exec (f.row seq src dst plen) s = .next (rxTakeAll (encHeader seq src dst f.code plen) s) := by
  cases f <;> rfl

/-- The trailer is `RX.BYTES` of its two bytes (R71, R92). -/
@[simp] theorem exec_frameTrailer (c : U16) (s : State) :
    exec (.frameTrailer c) s = .next (rxTakeAll (le16 c) s) := rfl

/-- A chunk row is the chunk at the cursor decoded with the row's variant (R240 to R260). -/
@[simp] theorem exec_chunkRow (d : DType) (id : U8) (size : U16) (s : State) :
    exec (d.row id size) s = .next (tlvRow d id size s) := by
  cases d <;> rfl

@[simp] theorem unitOf_headerRow (f : FnName) (seq src dst : U32) (plen : U16) :
    unitOf (f.row seq src dst plen) = some .rx := by
  cases f <;> rfl

@[simp] theorem unitOf_frameTrailer (c : U16) : unitOf (.frameTrailer c) = some .rx := rfl

@[simp] theorem unitOf_chunkRow (d : DType) (id : U8) (size : U16) : unitOf (d.row id size) = some .tlv := by
  cases d <;> rfl

/-! ### Every instruction and every step goes on (R10) -/

/-- No operation and no wire word stops the block. -/
theorem exec_safe (i : Instr) (s : State) : safeOutcome (exec i s) := by
  induction i using Instr.byFormat with
  | header f seq src dst plen => exact ⟨_, exec_headerRow f seq src dst plen s⟩
  | trailer c => exact ⟨_, exec_frameTrailer c s⟩
  | chunk d id size => exact ⟨_, exec_chunkRow d id size s⟩
  | op o => cases o <;> exact ⟨_, rfl⟩

/-- With nothing to run, only the queue is taken. -/
theorem step_of_fetch_none {s : State} {q : List Issue} (h : fetch s = (none, q)) :
    step s = .next (setPending q s) := by
  simp only [step, h]

/-- A step runs the fetched instruction on the shortened queue. -/
theorem step_of_fetch_some {s : State} {i : Instr} {q : List Issue} (h : fetch s = (some i, q)) :
    step s = exec i (setPending q s) := by
  simp only [step, h]

theorem step_safe (s : State) : safeOutcome (step s) := by
  match h : fetch s with
  | (none, q) => exact ⟨_, step_of_fetch_none h⟩
  | (some i, q) => exact step_of_fetch_some h ▸ exec_safe i _

/-- Settles O6: every instruction has a next state, and a step runs one instruction or none. -/
theorem nothingStopsTheBlock : Obligations.NothingStopsTheBlock :=
  ⟨exec_safe, step_safe⟩

/-! ### The tag space (R7, R82) -/

theorem dtype_above_21 (m : TagMap) {t : U8} (h : 21 < t.toNat) : m.dtype t = none := by
  have h0 : t ≠ 0 := by rintro rfl; simp at h
  have h21 : t ≠ 21 := by rintro rfl; simp at h
  simp only [TagMap.dtype, h0, h21, h, if_true, if_false]

/-- Settles O48: two tags of one variant are both that variant's tag (`tagOf_of_dtype`). -/
theorem tagSpaceIsAsConstrained : Obligations.TagSpaceIsAsConstrained := by
  intro m
  refine ⟨rfl, rfl, fun t => dtype_above_21 m, fun t u d ht hu => ?_, dtype_tagOf⟩
  exact (tagOf_of_dtype ht).symm.trans (tagOf_of_dtype hu)

/-! ### What a step fetches -/

theorem setPending_self (s : State) : setPending s.pending s = s := rfl

theorem fetch_nothing {s : State} (h : s.pending = []) : fetch s = (none, []) := by
  simp only [fetch, h]

theorem fetch_empty_read {s : State} {q : List Issue} (h : s.pending = .read [] :: q) : fetch s = (none, q) := by
  simp only [fetch, h]

theorem fetch_op {s : State} {o : PortOp} {q : List Issue} (h : s.pending = .op o :: q) :
    fetch s = (some (fetchOp s o), q) := by
  simp only [fetch, h]

theorem fetch_read {s : State} {b : U8} {t : Bytes} {q : List Issue} (h : s.pending = .read (b :: t) :: q) :
    fetch s = (some (fetchStream s b t).1, pushRead (fetchStream s b t).2 q) := by
  simp only [fetch, h]

/-- An operation other than `TLV.STEP` is fetched as itself. -/
theorem fetchOp_of_ne {o : PortOp} (s : State) (h : o ≠ .tlvStep) : fetchOp s o = o.toInstr := by
  cases o with
  | tlvStep => exact absurd rfl h
  | _ => rfl

/-- An active unit in front of a chunk word fetches the word's row. -/
theorem fetchOp_tlvStep_ok {s : State} {i : Instr} {rest : Bytes} (ha : s.tlvActive = true)
    (hd : decode s.params .ch (s.tlvBuf.drop s.tlvCur) = .ok (i, rest)) : fetchOp s .tlvStep = i := by
  simp only [fetchOp, fetchChunk, ha, hd, if_true]

/-- An inactive unit, or one in front of no chunk word, fetches `TLV.STEP` itself. -/
theorem fetchOp_tlvStep_none {s : State}
    (h : s.tlvActive = false ∨ ∃ e, decode s.params .ch (s.tlvBuf.drop s.tlvCur) = .error e) :
    fetchOp s .tlvStep = .tlvStep := by
  obtain ha | ⟨e, he⟩ := h
  · simp [fetchOp, fetchChunk, ha]
  · simp [fetchOp, fetchChunk, he]

/-- An empty RX unit stands in front of a header word (R26, R31). -/
theorem rxExpects_header {s : State} (hp : s.rxPhase = .hdr) (hh : s.rxHdr = []) : s.rxExpects = some .fh := by
  simp only [State.rxExpects, hp, hh]

/-- A finished payload stands in front of a trailer word (R26, R31). -/
theorem rxExpects_trailer {s : State} (hp : s.rxPhase = .csum) (h0 : s.rxCs0 = none) :
    s.rxExpects = some .ft := by
  simp only [State.rxExpects, hp, h0]

/-- The RX unit stands in front of no other word. -/
theorem rxExpects_cases {s : State} {f : Format} (h : s.rxExpects = some f) :
    (f = .fh ∧ s.rxPhase = .hdr ∧ s.rxHdr = []) ∨ (f = .ft ∧ s.rxPhase = .csum ∧ s.rxCs0 = none) := by
  unfold State.rxExpects at h
  split at h
  next hp hh => cases h; exact .inl ⟨rfl, hp, hh⟩
  next hp h0 => cases h; exact .inr ⟨rfl, hp, h0⟩
  next => cases h

/-- A word that stands where one is expected is fetched whole. -/
theorem fetchStream_ok {s : State} {f : Format} {b : U8} {t : Bytes} {r : Instr × Bytes}
    (hf : s.rxExpects = some f) (hd : decode s.params f (b :: t) = .ok r) : fetchStream s b t = r := by
  simp only [fetchStream, hf, hd]

/-- Where no word of the expected format stands, one byte is fetched. -/
theorem fetchStream_byte {s : State} {b : U8} {t : Bytes}
    (h : ∀ f r, s.rxExpects = some f → decode s.params f (b :: t) ≠ .ok r) :
    fetchStream s b t = (.rxByte b, t) := by
  unfold fetchStream
  split
  next => rfl
  next f hf =>
    split
    next r hr => exact absurd hr (h f r hf)
    next => rfl

/-- A step on the bytes of a `read` runs what is fetched of them and leaves the other bytes in front. -/
theorem step_read {s : State} {b : U8} {t rest : Bytes} {q : List Issue} {i : Instr}
    (h : s.pending = .read (b :: t) :: q) (hf : fetchStream s b t = (i, rest)) :
    step s = exec i (setPending (pushRead rest q) s) := by
  have := step_of_fetch_some (fetch_read h)
  rwa [hf] at this

/-- A step on an operation at the head of the queue runs what it is fetched as. -/
theorem step_op {s : State} {o : PortOp} {q : List Issue} (h : s.pending = .op o :: q) :
    step s = exec (fetchOp s o) (setPending q s) :=
  step_of_fetch_some (fetch_op h)

/-- Settles O50, clause by clause along the head of the queue. -/
theorem stepRunsTheDecodedInstruction : Obligations.StepRunsTheDecodedInstruction := by
  intro s q
  refine ⟨fun h => ?nothing, fun h => step_of_fetch_none (fetch_empty_read h), fun o ho h => ?op,
    fun h => ⟨fun i rest ha hd => ?chunk, fun hn => ?tlvStep⟩,
    fun b t h => ⟨fun i rest hp hh hd => ?header, fun i rest hp h0 hd => ?trailer, fun hfh hft => ?byte⟩⟩
  case nothing =>
    rw [step_of_fetch_none (fetch_nothing h), ← h, setPending_self]
  case op => exact fetchOp_of_ne s ho ▸ step_op h
  case chunk => exact fetchOp_tlvStep_ok ha hd ▸ step_op h
  case tlvStep =>
    have := step_op h
    rwa [fetchOp_tlvStep_none hn] at this
  case header => exact step_read h (fetchStream_ok (rxExpects_header hp hh) hd)
  case trailer => exact step_read h (fetchStream_ok (rxExpects_trailer hp h0) hd)
  case byte =>
    refine step_read h (fetchStream_byte fun f r hf => ?_)
    obtain ⟨rfl, hp, hh⟩ | ⟨rfl, hp, h0⟩ := rxExpects_cases hf
    · exact hfh r hp hh
    · exact hft r hp h0

end Sys2Proof.Machine
end

section
/-! # Independence of the units (R11, R20)

Two facts about every instruction of a unit: it leaves everything else alone (`Framed`), and two runs of it
from states that agree on the unit go alike (`Alike`). That instructions of different units commute follows
from these two, with no further look at any instruction. -/

namespace Sys2Proof.Machine

/-! ### Agreement on one unit -/

theorem State.sameUnit_refl (u : BlockUnit) (s : State) : State.sameUnit u s s := by
  cases u <;> simp [State.sameUnit]

theorem State.sameUnit.symm {u : BlockUnit} {s t : State} (h : State.sameUnit u s t) : State.sameUnit u t s := by
  cases u <;> simp_all [State.sameUnit]

theorem State.sameUnit.trans {u : BlockUnit} {s t r : State} (h : State.sameUnit u s t)
    (h' : State.sameUnit u t r) : State.sameUnit u s r := by
  cases u <;> simp_all [State.sameUnit]

/-! ### What one unit emitted -/

theorem emittedBy_append (u : BlockUnit) (a b : List Output) :
    emittedBy u (a ++ b) = emittedBy u a ++ emittedBy u b :=
  List.filter_append ..

/-- A unit emits nothing on another unit's ports. -/
theorem emittedBy_other {u w : BlockUnit} {es : List Output} (h : ∀ o ∈ es, o.unit = u) (hw : w ≠ u) :
    emittedBy w es = [] := by
  refine List.filter_eq_nil_iff.2 fun o ho => ?_
  simp [h o ho, hw.symm]

/-- Emissions of different units may be swapped: no unit's own emissions change. -/
theorem emittedBy_swap {u v : BlockUnit} {eu ev : List Output} (huv : u ≠ v) (hu : ∀ o ∈ eu, o.unit = u)
    (hv : ∀ o ∈ ev, o.unit = v) (w : BlockUnit) : emittedBy w (eu ++ ev) = emittedBy w (ev ++ eu) := by
  simp only [emittedBy_append]
  by_cases hw : w = u
  · simp [emittedBy_other hv (hw ▸ huv)]
  · simp [emittedBy_other hu hw]

/-! ### The frame of a unit -/

/-- From `s` to `t` only the unit `u` acted: what other units own, the parameters and the queue are as they
were, and what was emitted went out on the ports of `u`. -/
structure Framed (u : BlockUnit) (s t : State) : Prop where
  others : ∀ v, v ≠ u → State.sameUnit v s t
  params : t.params = s.params
  pending : t.pending = s.pending
  emits : ∃ es, t.trace = s.trace ++ es ∧ ∀ o ∈ es, o.unit = u

theorem Framed.refl (u : BlockUnit) (s : State) : Framed u s s :=
  ⟨fun v _ => State.sameUnit_refl v s, rfl, rfl, [], by simp⟩

theorem Framed.trans {u : BlockUnit} {s t r : State} (h : Framed u s t) (h' : Framed u t r) : Framed u s r := by
  obtain ⟨es, hes, hu⟩ := h.emits
  obtain ⟨es', hes', hu'⟩ := h'.emits
  refine ⟨fun v hv => (h.others v hv).trans (h'.others v hv), h'.params.trans h.params,
    h'.pending.trans h.pending, es ++ es', by rw [hes', hes, List.append_assoc], fun o ho => ?_⟩
  exact (List.mem_append.1 ho).elim (hu o) (hu' o)

/-- A write that emits nothing is framed when it leaves the other units, the parameters and the queue alone;
for a named write of the model the lemmas of Laws/State.lean say so unit by unit. -/
theorem Framed.silent {u : BlockUnit} {s t : State}
    (h : ∀ v, v ≠ u → State.sameUnit v s t := by intro v hv; cases v <;> simp_all [State.sameUnit])
    (hp : t.params = s.params := by rfl) (hq : t.pending = s.pending := by rfl)
    (ht : t.trace = s.trace := by rfl) : Framed u s t :=
  ⟨h, hp, hq, [], by simp [ht]⟩

/-- An emission changes nothing but the trace. -/
theorem sameUnit_emit (u : BlockUnit) (o : Output) (s : State) : State.sameUnit u s (emit o s) := by
  cases u <;> simp [State.sameUnit]

theorem framed_emit (o : Output) (s : State) : Framed o.unit s (emit o s) :=
  ⟨fun v _ => sameUnit_emit v o s, rfl, rfl, [o], rfl, by simp⟩

theorem framed_setCrc (v : U16) (s : State) : Framed .crc s (setCrc v s) :=
  .silent

theorem framed_setSeq (v : U32) (s : State) : Framed .tx s (setSeq v s) :=
  .silent

theorem framed_rxClear (s : State) : Framed .rx s (rxClear s) :=
  .silent

theorem framed_rxPutHeader (b : U8) (s : State) : Framed .rx s (rxPutHeader b s) :=
  .silent

theorem framed_rxPutPayload (b : U8) (s : State) : Framed .rx s (rxPutPayload b s) :=
  .silent

theorem framed_rxHoldLow (b : U8) (s : State) : Framed .rx s (rxHoldLow b s) :=
  .silent

theorem framed_tlvFill (p : Bytes) (s : State) : Framed .tlv s (tlvFill p s) :=
  .silent

theorem framed_tlvAdvance (n : Nat) (s : State) : Framed .tlv s (tlvAdvance n s) :=
  .silent

theorem framed_tlvHalt (s : State) : Framed .tlv s (tlvHalt s) :=
  .silent

theorem framed_raiseRx (e : RxEvent) (s : State) : Framed .rx s (raiseError (.rxEvt e) s) :=
  (framed_emit (.rxEvt e) s).trans (framed_rxClear _)

theorem framed_rxTake (b : U8) (s : State) : Framed .rx s (rxTake b s) := by
  obtain ⟨-, h⟩ | ⟨-, h⟩ | ⟨-, -, h⟩ | ⟨c0, e, -, -, -, h⟩ := rxTake_cases b s <;> rw [h]
  · exact framed_rxPutHeader b s
  · exact framed_rxPutPayload b s
  · exact framed_rxHoldLow b s
  · exact framed_raiseRx e s

theorem framed_rxTakeAll (bs : Bytes) (s : State) : Framed .rx s (rxTakeAll bs s) :=
  rxTakeAll_keeps (Framed .rx s) (fun b t h => h.trans (framed_rxTake b t)) bs s (.refl .rx s)

theorem framed_tlvTake (id tag : U8) (size : U16) (d : Option DType) (s : State) :
    Framed .tlv s (tlvTake id tag size d s) := by
  obtain ⟨-, h⟩ | ⟨-, -, h⟩ | ⟨-, -, -, h⟩ | ⟨-, -, h⟩ := tlvTake_cases id tag size d s <;> rw [h]
  · exact .refl .tlv s
  · exact (framed_emit (.tlvEvt _) s).trans (framed_tlvHalt _)
  · exact (framed_emit (.tlvEvt _) s).trans (framed_tlvHalt _)
  · exact (framed_emit (.tlvEvt _) s).trans (framed_tlvAdvance _ _)

/-! ### Two runs of one unit -/

/-- Two runs, from `s₁` to `t₁` and from `s₂` to `t₂`, leave the unit `u` alike and emit the same. -/
def Alike (u : BlockUnit) (s₁ s₂ t₁ t₂ : State) : Prop :=
  State.sameUnit u t₁ t₂ ∧ ∃ es, t₁.trace = s₁.trace ++ es ∧ t₂.trace = s₂.trace ++ es

theorem Alike.refl {u : BlockUnit} {s₁ s₂ : State} (h : State.sameUnit u s₁ s₂) : Alike u s₁ s₂ s₁ s₂ :=
  ⟨h, [], by simp⟩

theorem Alike.trans {u : BlockUnit} {s₁ s₂ t₁ t₂ r₁ r₂ : State} (h : Alike u s₁ s₂ t₁ t₂)
    (h' : Alike u t₁ t₂ r₁ r₂) : Alike u s₁ s₂ r₁ r₂ := by
  obtain ⟨-, es, h1, h2⟩ := h
  obtain ⟨hr, es', h1', h2'⟩ := h'
  exact ⟨hr, es ++ es', by rw [h1', h1, List.append_assoc], by rw [h2', h2, List.append_assoc]⟩

/-- Two runs that emit nothing. -/
theorem Alike.silent {u : BlockUnit} {s₁ s₂ t₁ t₂ : State} (h : State.sameUnit u t₁ t₂)
    (h1 : t₁.trace = s₁.trace) (h2 : t₂.trace = s₂.trace) : Alike u s₁ s₂ t₁ t₂ :=
  ⟨h, [], by simp [h1], by simp [h2]⟩

/-- The same emission in both runs. -/
theorem alike_emit {u : BlockUnit} {s₁ s₂ : State} (h : State.sameUnit u s₁ s₂) (o : Output) :
    Alike u s₁ s₂ (emit o s₁) (emit o s₂) :=
  ⟨(sameUnit_emit u o s₁).symm.trans (h.trans (sameUnit_emit u o s₂)), [o], rfl, rfl⟩

theorem alike_setSeq {s₁ s₂ : State} (v : U32) (hc : s₁.ctrlId = s₂.ctrlId) :
    Alike .tx s₁ s₂ (setSeq v s₁) (setSeq v s₂) :=
  .silent ⟨rfl, hc⟩ rfl rfl

theorem alike_raiseRx (e : RxEvent) (s₁ s₂ : State) :
    Alike .rx s₁ s₂ (raiseError (.rxEvt e) s₁) (raiseError (.rxEvt e) s₂) :=
  ⟨by simp [raiseError_rx, State.sameUnit], [.rxEvt e], rfl, rfl⟩

/-- `RX.BYTE` depends on the RX unit alone: the phase chooses the case in both runs. -/
theorem alike_rxTake {s₁ s₂ : State} (b : U8) (h : State.sameUnit .rx s₁ s₂) :
    Alike .rx s₁ s₂ (rxTake b s₁) (rxTake b s₂) := by
  obtain ⟨hp, hh, hy, h0, hc⟩ := h
  cases hp₁ : s₁.rxPhase with
  | hdr =>
    rw [rxTake_hdr hp₁, rxTake_hdr (hp ▸ hp₁)]
    exact .silent (by simp [State.sameUnit, hp, hh, hy, h0, hc]) rfl rfl
  | pay =>
    rw [rxTake_pay hp₁, rxTake_pay (hp ▸ hp₁)]
    exact .silent (by simp [State.sameUnit, State.rxPlen, hp, hh, hy, h0, hc]) rfl rfl
  | csum =>
    cases h0₁ : s₁.rxCs0 with
    | none =>
      rw [rxTake_low hp₁ h0₁, rxTake_low (hp ▸ hp₁) (h0 ▸ h0₁)]
      exact .silent (by simp [State.sameUnit, hp, hh, hy, hc]) rfl rfl
    | some c0 =>
      rw [rxTake_high hp₁ h0₁, rxTake_high (hp ▸ hp₁) (h0 ▸ h0₁), completeFrame, completeFrame, hh, hy]
      exact alike_raiseRx _ s₁ s₂

theorem alike_rxTakeAll {s₁ s₂ : State} (bs : Bytes) (h : State.sameUnit .rx s₁ s₂) :
    Alike .rx s₁ s₂ (rxTakeAll bs s₁) (rxTakeAll bs s₂) := by
  induction bs generalizing s₁ s₂ with
  | nil => exact .refl h
  | cons b t ih =>
    have hb := alike_rxTake b h
    exact hb.trans (ih hb.1)

/-- The event of `RX.EOB` is chosen by the RX unit alone. -/
theorem eobEvent_congr {s₁ s₂ : State} (h : State.sameUnit .rx s₁ s₂) : eobEvent s₁ = eobEvent s₂ := by
  obtain ⟨hp, hh, hy, h0, -⟩ := h
  simp only [eobEvent, State.rxMagic, State.rxPlen, hp, hh, hy, h0]

theorem alike_tlvHalt {s₁ s₂ : State} (h : State.sameUnit .tlv s₁ s₂) :
    Alike .tlv s₁ s₂ (tlvHalt s₁) (tlvHalt s₂) := by
  obtain ⟨hb, hc, -⟩ := h
  exact .silent (by simp [State.sameUnit, hb, hc]) rfl rfl

theorem alike_tlvAdvance {s₁ s₂ : State} (n : Nat) (h : State.sameUnit .tlv s₁ s₂) :
    Alike .tlv s₁ s₂ (tlvAdvance n s₁) (tlvAdvance n s₂) := by
  obtain ⟨hb, hc, -⟩ := h
  exact .silent (by simp [State.sameUnit, hb, hc]) rfl rfl

/-- The TLV entry rule (R203) depends on the event and the TLV unit alone. -/
theorem alike_raiseTlv {s₁ s₂ : State} (e : TlvEvent) (h : State.sameUnit .tlv s₁ s₂) :
    Alike .tlv s₁ s₂ (raiseError (.tlvEvt e) s₁) (raiseError (.tlvEvt e) s₂) := by
  have he := alike_emit h (.tlvEvt e)
  cases e with
  | truncatedHeader | truncatedValue => exact he.trans (alike_tlvHalt he.1)
  | chunk | unknownDataType | sizeMismatch => exact he.trans (alike_tlvAdvance _ he.1)

/-- The chunk step depends on the TLV unit alone: its tests come out the same in both runs. -/
theorem alike_tlvTake {s₁ s₂ : State} (id tag : U8) (size : U16) (d : Option DType)
    (h : State.sameUnit .tlv s₁ s₂) :
    Alike .tlv s₁ s₂ (tlvTake id tag size d s₁) (tlvTake id tag size d s₂) := by
  have ⟨hb, hc, ha⟩ := h
  have hl : s₁.tlvLen = s₂.tlvLen := congrArg List.length hb
  rw [tlvTake, tlvTake, hl, hc, ha, hb]
  split_ifs
  · exact alike_raiseTlv _ h
  · exact alike_raiseTlv _ h
  · exact alike_raiseTlv _ h
  · exact .refl h

/-! ### The two facts for every instruction -/

/-- An instruction of a unit acts on that unit alone (R20). -/
theorem exec_framed {i : Instr} {u : BlockUnit} {s t : State} (hu : unitOf i = some u) (h : exec i s = .next t) :
    Framed u s t := by
  induction i using Instr.byFormat with
  | header f seq src dst plen =>
    cases (unitOf_headerRow f seq src dst plen).symm.trans hu
    cases (exec_headerRow f seq src dst plen s).symm.trans h
    exact framed_rxTakeAll _ s
  | trailer c => cases hu; cases h; exact framed_rxTakeAll _ s
  | chunk d id size =>
    cases (unitOf_chunkRow d id size).symm.trans hu
    cases (exec_chunkRow d id size s).symm.trans h
    exact framed_tlvTake ..
  | op o =>
    cases o with
    | crcInit => cases hu; cases h; exact framed_setCrc _ s
    | crcUpd b => cases hu; cases h; exact framed_setCrc _ s
    | txEnc seq src dst fn p =>
      cases hu; cases h
      split_ifs
      · exact framed_emit (.txEvt _) s
      · exact framed_emit (.txOut _) s
    | txReq dst fn p =>
      cases hu; cases h
      split_ifs
      · exact framed_emit (.txEvt _) s
      · exact (framed_setSeq _ s).trans (framed_emit (.txOut _) _)
    | rxByte b => cases hu; cases h; exact framed_rxTake b s
    | rxEob => cases hu; cases h; exact framed_raiseRx _ s
    | tlvLoad p => cases hu; cases h; exact framed_tlvFill _ s
    | tlvStep => cases hu; cases h; exact framed_tlvTake ..
    | reset => cases hu

/-- What an instruction of a unit does depends on that unit and the parameters alone (R20). -/
theorem exec_alike {i : Instr} {u : BlockUnit} {s₁ s₂ t₁ t₂ : State} (hu : unitOf i = some u)
    (hs : State.sameUnit u s₁ s₂) (hp : s₁.params = s₂.params) (h₁ : exec i s₁ = .next t₁)
    (h₂ : exec i s₂ = .next t₂) : Alike u s₁ s₂ t₁ t₂ := by
  induction i using Instr.byFormat with
  | header f seq src dst plen =>
    cases (unitOf_headerRow f seq src dst plen).symm.trans hu
    cases (exec_headerRow f seq src dst plen s₁).symm.trans h₁
    cases (exec_headerRow f seq src dst plen s₂).symm.trans h₂
    exact alike_rxTakeAll _ hs
  | trailer c => cases hu; cases h₁; cases h₂; exact alike_rxTakeAll _ hs
  | chunk d id size =>
    cases (unitOf_chunkRow d id size).symm.trans hu
    cases (exec_chunkRow d id size s₁).symm.trans h₁
    cases (exec_chunkRow d id size s₂).symm.trans h₂
    rw [tlvRow, tlvRow, hp]
    exact alike_tlvTake _ _ _ _ hs
  | op o =>
    cases o with
    | crcInit => cases hu; cases h₁; cases h₂; exact .silent rfl rfl rfl
    | crcUpd b =>
      cases hu; cases h₁; cases h₂
      exact .silent (congrArg (crcUpd · b) hs) rfl rfl
    | txEnc seq src dst fn p =>
      cases hu; cases h₁; cases h₂
      split_ifs
      · exact alike_emit hs _
      · exact alike_emit hs _
    | txReq dst fn p =>
      cases hu; cases h₁; cases h₂
      split_ifs
      · exact alike_emit hs _
      · obtain ⟨hq, hc⟩ := hs
        rw [hq, hc]
        have hw := alike_setSeq (s₂.seq + 1) hc
        exact hw.trans (alike_emit hw.1 _)
    | rxByte b => cases hu; cases h₁; cases h₂; exact alike_rxTake b hs
    | rxEob =>
      cases hu; cases h₁; cases h₂
      rw [eobEvent_congr hs]
      exact alike_raiseRx _ s₁ s₂
    | tlvLoad p => cases hu; cases h₁; cases h₂; exact .silent ⟨rfl, rfl, rfl⟩ rfl rfl
    | tlvStep =>
      cases hu; cases h₁; cases h₂
      have ⟨hb, hc, _⟩ := hs
      simp only [State.chId, State.chTag, State.chSize, hb, hc, hp]
      exact alike_tlvTake _ _ _ _ hs
    | reset => cases hu

/-! ### Commuting -/

/-- Two instructions that run one after the other have a state between them. -/
theorem execAll_pair {i j : Instr} {s t : State} (h : execAll [i, j] s = .next t) :
    ∃ a, exec i s = .next a ∧ exec j a = .next t := by
  obtain ⟨a, ha⟩ := exec_safe i s
  obtain ⟨b, hb⟩ := exec_safe j a
  rw [execAll_cons ha, execAll_cons hb] at h
  exact ⟨a, ha, hb.trans h⟩

/-- Running `j` of another unit before `i` changes nothing for `i`'s unit, neither its state nor what `i`
emits. -/
theorem exec_alike_after_other {i j : Instr} {u v : BlockUnit} {s a b ba : State} (hi : unitOf i = some u)
    (hj : unitOf j = some v) (huv : u ≠ v) (ha : exec i s = .next a) (hb : exec j s = .next b)
    (hba : exec i b = .next ba) : Alike u s b a ba :=
  have fj := exec_framed hj hb
  exec_alike hi (fj.others u huv) fj.params.symm ha hba

/-- The unit of the instruction that ran first ends the same in both orders. -/
theorem sameUnit_of_orders {i j : Instr} {u v : BlockUnit} {s a b ab ba : State} (hi : unitOf i = some u)
    (hj : unitOf j = some v) (huv : u ≠ v) (ha : exec i s = .next a) (hab : exec j a = .next ab)
    (hb : exec j s = .next b) (hba : exec i b = .next ba) : State.sameUnit u ab ba :=
  ((exec_framed hj hab).others u huv).symm.trans (exec_alike_after_other hi hj huv ha hb hba).1

/-- Settles O11: each instruction sees the same unit in either order, so it leaves the same unit and emits the
same, and the two runs' traces differ by a swap of emissions on different ports. -/
theorem unitsCommute : Obligations.UnitsCommute := by
  intro i j u v s ab ba hi hj huv hab hba
  obtain ⟨a, ha, hab⟩ := execAll_pair hab
  obtain ⟨b, hb, hba⟩ := execAll_pair hba
  have fa := exec_framed hi ha
  have fab := exec_framed hj hab
  have fb := exec_framed hj hb
  have fba := exec_framed hi hba
  refine ⟨fun w => ?units, ?params, ?pending, fun w => ?emissions⟩
  case units =>
    by_cases hwu : w = u
    · exact hwu ▸ sameUnit_of_orders hi hj huv ha hab hb hba
    by_cases hwv : w = v
    · exact hwv ▸ (sameUnit_of_orders hj hi huv.symm hb hba ha hab).symm
    have toAb := (fa.others w hwu).trans (fab.others w hwv)
    have toBa := (fb.others w hwv).trans (fba.others w hwu)
    exact toAb.symm.trans toBa
  case params => rw [fab.params, fa.params, fba.params, fb.params]
  case pending => rw [fab.pending, fa.pending, fba.pending, fb.pending]
  case emissions =>
    obtain ⟨-, eu, hau, hbau⟩ := exec_alike_after_other hi hj huv ha hb hba
    obtain ⟨-, ev, hbv, habv⟩ := exec_alike_after_other hj hi huv.symm hb ha hab
    obtain ⟨eu', hau', hu⟩ := fa.emits
    obtain ⟨ev', hbv', hv⟩ := fb.emits
    obtain rfl : eu = eu' := List.append_cancel_left (hau.symm.trans hau')
    obtain rfl : ev = ev' := List.append_cancel_left (hbv.symm.trans hbv')
    rw [habv, hau, hbau, hbv, List.append_assoc, List.append_assoc, emittedBy_append,
      emittedBy_append w s.trace, emittedBy_swap huv hu hv]

end Sys2Proof.Machine
end

section
/-! # The state (10_state.md)

Reset, who writes which element, and the invariants R32, R36 and R25. The invariant has one part for each unit
(`State.unitInv`): an instruction keeps its own unit's part by that unit's rules, and every other part because
it acts on its own unit alone (`exec_framed`). -/

namespace Sys2Proof.Machine

/-! ### Independence, read off the two facts about every instruction -/

/-- Settles O9: the four parts of `Framed`. -/
theorem unitsWriteOnlyTheirOwnState : Obligations.UnitsWriteOnlyTheirOwnState := by
  intro i u s t hu h
  obtain ⟨others, params, pending, emits⟩ := exec_framed hu h
  exact ⟨others, params, pending, emits⟩

/-- Settles O10: two runs of one unit go alike. -/
theorem unitsReadOnlyTheirOwnState : Obligations.UnitsReadOnlyTheirOwnState :=
  fun _ _ _ _ _ _ hu hs hp h₁ h₂ => exec_alike hu hs hp h₁ h₂

/-! ### Reset (R40, R220) -/

/-- Settles O1: the reset values are the definition's. -/
theorem powerOnLeavesTheTableValues : Obligations.PowerOnLeavesTheTableValues :=
  fun _ => ⟨rfl, rfl, rfl, rfl, rfl, rfl, rfl, rfl, rfl, rfl, rfl⟩

@[simp] theorem exec_reset (s : State) : exec .reset s = .next (resetElements s) := rfl

/-- Settles O2: `RESET` takes the elements from the power-on state and the other fields from `s`. -/
theorem resetWritesEveryElement : Obligations.ResetWritesEveryElement :=
  exec_reset

/-! ### The instructions of a unit -/

@[simp] theorem format_headerRow (f : FnName) (seq src dst : U32) (plen : U16) :
    (f.row seq src dst plen).format = .fh := by
  cases f <;> rfl

@[simp] theorem format_chunkRow (d : DType) (id : U8) (size : U16) : (d.row id size).format = .ch := by
  cases d <;> rfl

/-- Every instruction but `RESET` belongs to a unit (R11). -/
theorem eq_reset_of_unitOf_none {i : Instr} (h : unitOf i = none) : i = .reset := by
  induction i using Instr.byFormat with
  | header | chunk => simp at h
  | trailer c => cases h
  | op o =>
    cases o with
    | reset => rfl
    | _ => cases h

/-- The operations of the CRC unit (R12). -/
theorem eq_of_unitOf_crc {i : Instr} (h : unitOf i = some .crc) : i = .crcInit ∨ ∃ b, i = .crcUpd b := by
  induction i using Instr.byFormat with
  | header | chunk => simp at h
  | trailer c => cases h
  | op o =>
    cases o with
    | crcInit => exact .inl rfl
    | crcUpd b => exact .inr ⟨b, rfl⟩
    | _ => cases h

/-- The operations of the TX unit (R12). -/
theorem eq_of_unitOf_tx {i : Instr} (h : unitOf i = some .tx) :
    (∃ seq src dst fn p, i = .txEnc seq src dst fn p) ∨ ∃ dst fn p, i = .txReq dst fn p := by
  induction i using Instr.byFormat with
  | header | chunk => simp at h
  | trailer c => cases h
  | op o =>
    cases o with
    | txEnc seq src dst fn p => exact .inl ⟨seq, src, dst, fn, p, rfl⟩
    | txReq dst fn p => exact .inr ⟨dst, fn, p, rfl⟩
    | _ => cases h

/-- The operations of the RX unit and the wire words of a frame (R12, notes/assumptions/6.md). -/
theorem eq_of_unitOf_rx {i : Instr} (h : unitOf i = some .rx) :
    (∃ b, i = .rxByte b) ∨ i = .rxEob ∨ i.format = .fh ∨ i.format = .ft := by
  induction i using Instr.byFormat with
  | header => simp
  | trailer c => exact .inr (.inr (.inr rfl))
  | chunk => simp at h
  | op o =>
    cases o with
    | rxByte b => exact .inl ⟨b, rfl⟩
    | rxEob => exact .inr (.inl rfl)
    | _ => cases h

/-- The operations of the TLV unit and the chunk rows (R12, notes/assumptions/6.md). -/
theorem eq_of_unitOf_tlv {i : Instr} (h : unitOf i = some .tlv) :
    (∃ p, i = .tlvLoad p) ∨ i = .tlvStep ∨ ∃ d id size, i = DType.row d id size := by
  induction i using Instr.byFormat with
  | header => simp at h
  | trailer c => cases h
  | chunk d id size => exact .inr (.inr ⟨d, id, size, rfl⟩)
  | op o =>
    cases o with
    | tlvLoad p => exact .inl ⟨p, rfl⟩
    | tlvStep => exact .inr (.inl rfl)
    | _ => cases h

/-! ### Who writes an element (R21, column "written by") -/

/-- `TX.ENC` writes no element (R118). -/
theorem exec_txEnc_seq {seq src dst : U32} {fn : U16} {p : Bytes} {s t : State}
    (h : exec (.txEnc seq src dst fn p) s = .next t) : t.seq = s.seq := by
  cases h
  split_ifs <;> rfl

/-- `CTRL_ID` is constant but for `RESET` (R25). -/
theorem exec_ctrlId {i : Instr} {u : BlockUnit} {s t : State} (hu : unitOf i = some u) (h : exec i s = .next t) :
    t.ctrlId = s.ctrlId := by
  by_cases hux : u = .tx
  · subst hux
    obtain ⟨seq, src, dst, fn, p, rfl⟩ | ⟨dst, fn, p, rfl⟩ := eq_of_unitOf_tx hu
    · cases h
      split_ifs <;> rfl
    · cases h
      split_ifs <;> rfl
  · obtain ⟨-, hc⟩ := (exec_framed hu h).others .tx (Ne.symm hux)
    exact hc.symm

/-- The chunk step reads the buffer and leaves it (R171). -/
@[simp] theorem tlvTake_tlvBuf (id tag : U8) (size : U16) (d : Option DType) (s : State) :
    (tlvTake id tag size d s).tlvBuf = s.tlvBuf := by
  obtain ⟨-, h⟩ | ⟨-, -, h⟩ | ⟨-, -, -, h⟩ | ⟨-, -, h⟩ := tlvTake_cases id tag size d s <;> rw [h] <;> rfl

/-- Of the TLV unit's instructions `TLV.LOAD` alone writes the buffer (R33). -/
theorem eq_tlvLoad_of_tlvBuf_ne {i : Instr} {s t : State} (hu : unitOf i = some .tlv) (h : exec i s = .next t)
    (hne : t.tlvBuf ≠ s.tlvBuf) : ∃ p, i = .tlvLoad p := by
  obtain hp | rfl | ⟨d, id, size, rfl⟩ := eq_of_unitOf_tlv hu
  · exact hp
  · cases h
    exact absurd (tlvTake_tlvBuf ..) hne
  · cases (exec_chunkRow d id size s).symm.trans h
    exact absurd (tlvTake_tlvBuf ..) hne

/-- A unit that an instruction changed is the instruction's own. -/
theorem unitOf_of_changed {i : Instr} {u v : BlockUnit} {s t : State} (hu : unitOf i = some u)
    (h : exec i s = .next t) (hne : ¬ State.sameUnit v s t) : unitOf i = some v := by
  by_cases hv : v = u
  · rw [hu, hv]
  · exact absurd ((exec_framed hu h).others v hv) hne

/-- Settles O8: a changed element names the unit of the instruction, and the unit names its operations. -/
theorem onlyTheNamedOperationsWrite : Obligations.OnlyTheNamedOperationsWrite := by
  intro i s t h hr
  obtain ⟨u, hu⟩ := Option.ne_none_iff_exists'.1 fun hn => hr (eq_reset_of_unitOf_none hn)
  refine ⟨fun hne => ?crc, fun hne => ?seq, exec_ctrlId hu h, fun hne => ?rx, fun hne => ?buf, fun hne => ?cursor⟩
  case crc =>
    exact eq_of_unitOf_crc (unitOf_of_changed hu h fun (hs : s.crc = t.crc) => hne hs.symm)
  case seq =>
    have htx := unitOf_of_changed (v := .tx) hu h fun ⟨hs, _⟩ => hne hs.symm
    obtain ⟨seq, src, dst, fn, p, rfl⟩ | hreq := eq_of_unitOf_tx htx
    · exact absurd (exec_txEnc_seq h) hne
    · exact hreq
  case rx =>
    refine eq_of_unitOf_rx (unitOf_of_changed hu h fun ⟨hp, hh, hy, h0, hc⟩ => ?_)
    simp [hp, hh, hy, h0, hc] at hne
  case buf =>
    have htlv := unitOf_of_changed (v := .tlv) hu h fun ⟨hb, _⟩ => hne hb.symm
    exact eq_tlvLoad_of_tlvBuf_ne htlv h hne
  case cursor =>
    have htlv := unitOf_of_changed (v := .tlv) hu h fun ⟨_, hc, ha⟩ => by simp [hc, ha] at hne
    obtain hp | hs | ⟨d, id, size, rfl⟩ := eq_of_unitOf_tlv htlv
    · exact .inl hp
    · exact .inr (.inl hs)
    · exact .inr (.inr (format_chunkRow d id size))

/-! ### The RX invariant by phase (R32) -/

theorem rxInv_iff_of_hdr {s : State} (hp : s.rxPhase = .hdr) :
    s.rxInv ↔ s.rxCrc = crcFold 0xFFFF (s.rxHdr ++ s.rxPay) ∧ s.rxHdr.length ≤ 19 ∧ s.rxPay = [] ∧
      s.rxCs0 = none := by
  simp [State.rxInv, hp]

theorem rxInv_iff_of_pay {s : State} (hp : s.rxPhase = .pay) :
    s.rxInv ↔ s.rxCrc = crcFold 0xFFFF (s.rxHdr ++ s.rxPay) ∧ s.rxHdr.length = 20 ∧
      s.rxPay.length + 1 ≤ s.rxPlen.toNat ∧ s.rxCs0 = none := by
  simp [State.rxInv, hp]

theorem rxInv_iff_of_csum {s : State} (hp : s.rxPhase = .csum) :
    s.rxInv ↔ s.rxCrc = crcFold 0xFFFF (s.rxHdr ++ s.rxPay) ∧ s.rxHdr.length = 20 ∧
      s.rxPay.length = s.rxPlen.toNat := by
  simp [State.rxInv, hp]

/-- An empty RX unit meets the invariant, wherever it comes from (R137, R138, R220). -/
theorem rxInv_of_rxEmpty {s : State} (h : s.rxEmpty) : s.rxInv := by
  obtain ⟨hp, hh, hy, h0, hc⟩ := h
  rw [rxInv_iff_of_hdr hp]
  simp [hh, hy, h0, hc, crcFold]

theorem rxInv_rxClear (s : State) : (rxClear s).rxInv :=
  rxInv_of_rxEmpty ⟨rfl, rfl, rfl, rfl, rfl⟩

/-- The phase after a header byte: the header goes on, or it is complete and `payload_length` decides (R135,
R136). -/
theorem rxPutHeader_phase_cases (b : U8) {s : State} (hp : s.rxPhase = .hdr) (hl : s.rxHdr.length ≤ 19) :
    (s.rxHdr.length < 19 ∧ (rxPutHeader b s).rxPhase = .hdr) ∨
    (s.rxHdr.length = 19 ∧ (rxPutHeader b s).rxPlen.toNat = 0 ∧ (rxPutHeader b s).rxPhase = .csum) ∨
    (s.rxHdr.length = 19 ∧ 0 < (rxPutHeader b s).rxPlen.toNat ∧ (rxPutHeader b s).rxPhase = .pay) := by
  obtain hlt | h19 := Nat.lt_or_eq_of_le hl
  · exact .inl ⟨hlt, by simp [headerLen, hp]; omega⟩
  · have hphase : (rxPutHeader b s).rxPhase = phaseAfterHeader (s.rxHdr ++ [b]) := by simp [headerLen, h19]
    by_cases h0 : field16 (s.rxHdr ++ [b]) 18 = 0
    · exact .inr (.inl ⟨h19, by simp [State.rxPlen, -field16_toNat, h0], hphase.trans (if_pos h0)⟩)
    · have hpos : 0 < (field16 (s.rxHdr ++ [b]) 18).toNat :=
        Nat.pos_of_ne_zero fun h => h0 (BitVec.eq_of_toNat_eq h)
      exact .inr (.inr ⟨h19, hpos, hphase.trans (if_neg h0)⟩)

/-- The phase after a payload byte: the byte was the last one or it was not (R135). -/
theorem rxPutPayload_phase_cases (b : U8) {s : State} (hp : s.rxPhase = .pay) :
    (s.rxPay.length + 1 = s.rxPlen.toNat ∧ (rxPutPayload b s).rxPhase = .csum) ∨
    (s.rxPay.length + 1 ≠ s.rxPlen.toNat ∧ (rxPutPayload b s).rxPhase = .pay) := by
  by_cases hl : s.rxPay.length + 1 = s.rxPlen.toNat
  · exact .inl ⟨hl, by simp [hl]⟩
  · exact .inr ⟨hl, by simp [hl, hp]⟩

@[simp] theorem rxPutPayload_rxPlen (b : U8) (s : State) : (rxPutPayload b s).rxPlen = s.rxPlen := rfl

@[simp] theorem rxHoldLow_rxPlen (b : U8) (s : State) : (rxHoldLow b s).rxPlen = s.rxPlen := rfl

theorem rxInv_rxPutHeader (b : U8) {s : State} (hp : s.rxPhase = .hdr) (h : s.rxInv) :
    (rxPutHeader b s).rxInv := by
  obtain ⟨hc, hl, hy, h0⟩ := (rxInv_iff_of_hdr hp).1 h
  have hcrc : (rxPutHeader b s).rxCrc =
      crcFold 0xFFFF ((rxPutHeader b s).rxHdr ++ (rxPutHeader b s).rxPay) := by
    simp [hc, hy, crcFold_snoc]
  obtain ⟨hlt, hp'⟩ | ⟨h19, hz, hp'⟩ | ⟨h19, hpos, hp'⟩ := rxPutHeader_phase_cases b hp hl
  · exact (rxInv_iff_of_hdr hp').2 ⟨hcrc, by simp; omega, hy, h0⟩
  · exact (rxInv_iff_of_csum hp').2 ⟨hcrc, by simp [h19], by rw [hz]; simp [hy]⟩
  · exact (rxInv_iff_of_pay hp').2 ⟨hcrc, by simp [h19], by rw [rxPutHeader_rxPay, hy]; exact hpos, h0⟩

theorem rxInv_rxPutPayload (b : U8) {s : State} (hp : s.rxPhase = .pay) (h : s.rxInv) :
    (rxPutPayload b s).rxInv := by
  obtain ⟨hc, hl, hle, h0⟩ := (rxInv_iff_of_pay hp).1 h
  have hcrc : (rxPutPayload b s).rxCrc =
      crcFold 0xFFFF ((rxPutPayload b s).rxHdr ++ (rxPutPayload b s).rxPay) := by
    simp [hc, ← List.append_assoc, crcFold_snoc]
  obtain ⟨hlast, hp'⟩ | ⟨hmore, hp'⟩ := rxPutPayload_phase_cases b hp
  · exact (rxInv_iff_of_csum hp').2 ⟨hcrc, hl, by simpa using hlast⟩
  · have hroom : (rxPutPayload b s).rxPay.length + 1 ≤ (rxPutPayload b s).rxPlen.toNat := by
      simp only [rxPutPayload_rxPay, rxPutPayload_rxPlen, List.length_append, List.length_singleton]
      omega
    exact (rxInv_iff_of_pay hp').2 ⟨hcrc, hl, hroom, h0⟩

theorem rxInv_rxHoldLow (b : U8) {s : State} (hp : s.rxPhase = .csum) (h : s.rxInv) : (rxHoldLow b s).rxInv :=
  (rxInv_iff_of_csum (s := rxHoldLow b s) hp).2 ((rxInv_iff_of_csum hp).1 h)

theorem rxInv_rxTake (b : U8) (s : State) (h : s.rxInv) : (rxTake b s).rxInv := by
  obtain ⟨hp, ht⟩ | ⟨hp, ht⟩ | ⟨hp, -, ht⟩ | ⟨c0, e, -, -, -, ht⟩ := rxTake_cases b s <;> rw [ht]
  · exact rxInv_rxPutHeader b hp h
  · exact rxInv_rxPutPayload b hp h
  · exact rxInv_rxHoldLow b hp h
  · exact rxInv_rxClear _

theorem rxInv_rxTakeAll (bs : Bytes) (s : State) (h : s.rxInv) : (rxTakeAll bs s).rxInv :=
  rxTakeAll_keeps State.rxInv rxInv_rxTake bs s h

/-! ### The TLV invariant (R36) -/

theorem tlvInv_tlvFill (p : Payload) (s : State) : (tlvFill p.bytes s).tlvInv :=
  ⟨p.fits, Nat.zero_le _, of_decide_eq_true⟩

theorem tlvInv_tlvHalt {s : State} (h : s.tlvInv) : (tlvHalt s).tlvInv := by
  obtain ⟨hb, hc, -⟩ := h
  exact ⟨hb, hc, nofun⟩

/-- A chunk that lies inside the payload is stepped over without passing the payload's end (R34). -/
theorem tlvInv_tlvAdvance {s : State} {n : Nat} (h : s.tlvInv) (hn : s.tlvCur + 4 + n ≤ s.tlvLen) :
    (tlvAdvance n s).tlvInv := by
  obtain ⟨hb, -, -⟩ := h
  exact ⟨hb, hn, of_decide_eq_true⟩

theorem tlvInv_tlvTake (id tag : U8) (size : U16) (d : Option DType) {s : State} (h : s.tlvInv) :
    (tlvTake id tag size d s).tlvInv := by
  obtain ⟨-, ht⟩ | ⟨-, -, ht⟩ | ⟨-, -, -, ht⟩ | ⟨-, hn, ht⟩ := tlvTake_cases id tag size d s <;> rw [ht]
  · exact h
  · exact tlvInv_tlvHalt (s := emit _ s) h
  · exact tlvInv_tlvHalt (s := emit _ s) h
  · exact tlvInv_tlvAdvance (s := emit _ s) h hn

/-! ### The invariant, one part for each unit -/

/-- The part of the invariant that speaks of one unit's elements. -/
def State.unitInv (s : State) : BlockUnit → Prop
  | .crc => True
  | .tx => s.ctrlId = s.params.controllerId
  | .rx => s.rxInv
  | .tlv => s.tlvInv

theorem inv_iff_unitInv (s : State) : s.inv ↔ ∀ u, s.unitInv u := by
  refine ⟨fun ⟨hrx, htlv, htx⟩ u => ?_, fun h => ⟨h .rx, h .tlv, h .tx⟩⟩
  cases u with
  | crc => trivial
  | tx => exact htx
  | rx => exact hrx
  | tlv => exact htlv

/-- A unit's part depends on that unit's elements and the parameters alone. -/
theorem unitInv_congr {u : BlockUnit} {s t : State} (hs : State.sameUnit u s t) (hp : t.params = s.params)
    (h : s.unitInv u) : t.unitInv u := by
  cases u with
  | crc => trivial
  | tx =>
    obtain ⟨-, hc⟩ := hs
    exact (hc.symm.trans h).trans (congrArg Params.controllerId hp.symm)
  | rx =>
    obtain ⟨hp, hh, hy, h0, hc⟩ := hs
    simpa only [State.unitInv, State.rxInv, State.rxPlen, hp, hh, hy, h0, hc] using h
  | tlv =>
    obtain ⟨hb, hc, ha⟩ := hs
    simpa only [State.unitInv, State.tlvInv, hb, hc, ha] using h

/-- The instructions of the RX unit keep its invariant (R32). -/
theorem exec_keeps_rxInv {i : Instr} {s t : State} (hu : unitOf i = some .rx) (h : exec i s = .next t)
    (hs : s.rxInv) : t.rxInv := by
  induction i using Instr.byFormat with
  | header f seq src dst plen =>
    cases (exec_headerRow f seq src dst plen s).symm.trans h
    exact rxInv_rxTakeAll _ s hs
  | trailer c => cases h; exact rxInv_rxTakeAll _ s hs
  | chunk => simp at hu
  | op o =>
    cases o with
    | rxByte b => cases h; exact rxInv_rxTake b s hs
    | rxEob => cases h; exact rxInv_rxClear _
    | _ => cases hu

/-- The instructions of the TLV unit keep its invariant (R36). -/
theorem exec_keeps_tlvInv {i : Instr} {s t : State} (hu : unitOf i = some .tlv) (h : exec i s = .next t)
    (hs : s.tlvInv) : t.tlvInv := by
  obtain ⟨p, rfl⟩ | rfl | ⟨d, id, size, rfl⟩ := eq_of_unitOf_tlv hu
  · cases h; exact tlvInv_tlvFill p s
  · cases h; exact tlvInv_tlvTake _ _ _ _ hs
  · cases (exec_chunkRow d id size s).symm.trans h
    exact tlvInv_tlvTake _ _ _ _ hs

/-- An instruction keeps its own unit's part of the invariant. -/
theorem exec_keeps_own_unitInv {i : Instr} {u : BlockUnit} {s t : State} (hu : unitOf i = some u)
    (h : exec i s = .next t) (hs : s.unitInv u) : t.unitInv u := by
  cases u with
  | crc => trivial
  | tx => exact (exec_ctrlId hu h).trans (hs.trans (congrArg Params.controllerId (exec_framed hu h).params.symm))
  | rx => exact exec_keeps_rxInv hu h hs
  | tlv => exact exec_keeps_tlvInv hu h hs

/-- An empty block whose `CTRL_ID` is its parameter meets the invariant. -/
theorem inv_powerOn (p : Params) : (State.powerOn p).inv :=
  ⟨rxInv_of_rxEmpty ⟨rfl, rfl, rfl, rfl, rfl⟩, ⟨Nat.zero_le _, Nat.le_refl _, nofun⟩, rfl⟩

/-- Settles O3: after power-on both decoders are empty. -/
theorem powerOnMeetsTheInvariant : Obligations.PowerOnMeetsTheInvariant :=
  inv_powerOn

/-- Settles O4: `RESET` leaves the elements of power-on; any other instruction keeps its own unit's part of the
invariant by that unit's rules and the other units' parts by its frame. -/
theorem everyInstructionKeepsTheInvariant : Obligations.EveryInstructionKeepsTheInvariant := by
  intro i s t hs h
  cases hu : unitOf i with
  | none =>
    cases eq_reset_of_unitOf_none hu
    cases h
    exact inv_powerOn s.params
  | some u =>
    have frame := exec_framed hu h
    rw [inv_iff_unitInv] at hs ⊢
    intro v
    by_cases hv : v = u
    · exact hv ▸ exec_keeps_own_unitInv hu h (hs u)
    · exact unitInv_congr (frame.others v hv) frame.params (hs v)

/-- A step takes the queue on and runs one instruction or none. -/
theorem step_cases {s t : State} (h : step s = .next t) :
    ∃ q, t = setPending q s ∨ ∃ i, exec i (setPending q s) = .next t := by
  match hf : fetch s with
  | (none, q) =>
    rw [step_of_fetch_none hf] at h
    cases h
    exact ⟨q, .inl rfl⟩
  | (some i, q) => exact ⟨q, .inr ⟨i, step_of_fetch_some hf ▸ h⟩⟩

/-- The queue is no part of the invariant. -/
theorem inv_setPending {q : List Issue} {s : State} (h : s.inv) : (setPending q s).inv := h

/-- Settles O5: taking from the queue keeps the invariant, and so does the instruction run. -/
theorem everyStepKeepsTheInvariant : Obligations.EveryStepKeepsTheInvariant := by
  intro s t hs h
  obtain ⟨q, rfl | ⟨i, hi⟩⟩ := step_cases h
  · exact inv_setPending hs
  · exact everyInstructionKeepsTheInvariant i _ t (inv_setPending hs) hi

/-! ### The RX cursor (R31) -/

theorem rxOffset_of_hdr {s : State} (hp : s.rxPhase = .hdr) : s.rxOffset = s.rxHdr.length := by
  simp [State.rxOffset, State.rxCnt, hp]

theorem rxOffset_of_pay {s : State} (hp : s.rxPhase = .pay) : s.rxOffset = 20 + s.rxPay.length := by
  simp [State.rxOffset, State.rxCnt, hp]

theorem rxOffset_of_csum_low {s : State} (hp : s.rxPhase = .csum) (h0 : s.rxCs0 = none) :
    s.rxOffset = 20 + s.rxPlen.toNat := by
  simp [State.rxOffset, State.rxCnt, hp, h0]

theorem rxOffset_of_csum_high {s : State} {c0 : U8} (hp : s.rxPhase = .csum) (h0 : s.rxCs0 = some c0) :
    s.rxOffset = 21 + s.rxPlen.toNat := by
  simp [State.rxOffset, State.rxCnt, hp, h0]
  omega

/-- A header byte moves the cursor on, also where the header ends: the payload, or without payload the checksum,
begins at offset 20. -/
theorem rxOffset_rxPutHeader (b : U8) {s : State} (hp : s.rxPhase = .hdr) (h : s.rxInv) :
    (rxPutHeader b s).rxOffset = s.rxOffset + 1 := by
  obtain ⟨-, hl, hy, h0⟩ := (rxInv_iff_of_hdr hp).1 h
  rw [rxOffset_of_hdr hp]
  obtain ⟨-, hp'⟩ | ⟨h19, hz, hp'⟩ | ⟨h19, -, hp'⟩ := rxPutHeader_phase_cases b hp hl
  · simp [rxOffset_of_hdr hp']
  · rw [rxOffset_of_csum_low hp' h0, hz, h19]
  · simp [rxOffset_of_pay hp', hy, h19]

/-- A payload byte moves the cursor on, also where the payload ends. -/
theorem rxOffset_rxPutPayload (b : U8) {s : State} (hp : s.rxPhase = .pay) (h : s.rxInv) :
    (rxPutPayload b s).rxOffset = s.rxOffset + 1 := by
  obtain ⟨-, -, -, h0⟩ := (rxInv_iff_of_pay hp).1 h
  rw [rxOffset_of_pay hp]
  obtain ⟨hlast, hp'⟩ | ⟨-, hp'⟩ := rxPutPayload_phase_cases b hp
  · rw [rxOffset_of_csum_low hp' h0, rxPutPayload_rxPlen, ← hlast, Nat.add_assoc]
  · simp [rxOffset_of_pay hp', Nat.add_assoc]

/-- The low checksum byte moves the cursor on. -/
theorem rxOffset_rxHoldLow (b : U8) {s : State} (hp : s.rxPhase = .csum) (h0 : s.rxCs0 = none) :
    (rxHoldLow b s).rxOffset = s.rxOffset + 1 := by
  rw [rxOffset_of_csum_low hp h0, rxOffset_of_csum_high (s := rxHoldLow b s) hp rfl, rxHoldLow_rxPlen]
  omega

/-- Settles O26, case by case as R135 gives them: only the high checksum byte ends a frame. -/
theorem rxCursorMovesOneByte : Obligations.RxCursorMovesOneByte := by
  rintro b s t ⟨hrx, -, -⟩ h
  cases h
  obtain ⟨hp, ht⟩ | ⟨hp, ht⟩ | ⟨hp, h0, ht⟩ | ⟨c0, e, hp, h0, -, ht⟩ := rxTake_cases b s <;> rw [ht]
  · exact .inl ⟨rxOffset_rxPutHeader b hp hrx, rfl⟩
  · exact .inl ⟨rxOffset_rxPutPayload b hp hrx, rfl⟩
  · exact .inl ⟨rxOffset_rxHoldLow b hp h0, rfl⟩
  · exact .inr ⟨rfl, rfl, rxOffset_of_csum_high hp h0⟩

end Sys2Proof.Machine
end

section
/-! # The byte streams and the parameters (20_memory.md)

What is taken from the incoming stream at one step is the bytes of one word or one byte, and it comes to
`RX.BYTE` of them (R50, R92); the parameters are fixed at instantiation (R64). -/

namespace Sys2Proof

/-! ### Fields are slices of the bytes they are read from (R53, R85) -/

theorem slice_length {s : Bytes} {i j : Nat} (h : j ≤ s.length) : (slice s i j).length = j - i := by
  simp only [slice, List.length_take, List.length_drop]
  omega

theorem slice_append_slice (s : Bytes) {i j k : Nat} (hij : i ≤ j) (hjk : j ≤ k) :
    slice s i j ++ slice s j k = slice s i k := by
  have hj : i + (j - i) = j := Nat.add_sub_of_le hij
  have hk : k - i = (j - i) + (k - j) := by omega
  rw [slice, slice, slice, hk, List.take_add, List.drop_drop, hj]

theorem leBytes_leAt {s : Bytes} {off n : Nat} (h : off + n ≤ s.length) :
    leBytes n (leAt s off n) = slice s off (off + n) := by
  have hl : (slice s off (off + n)).length = n := by rw [slice_length h, Nat.add_sub_cancel_left]
  calc leBytes n (leAt s off n)
      = leBytes (slice s off (off + n)).length (leNat (slice s off (off + n))) := by rw [hl, leAt]
    _ = slice s off (off + n) := leBytes_leNat _

theorem le16_field16 {s : Bytes} {off : Nat} (h : off + 2 ≤ s.length) :
    le16 (field16 s off) = slice s off (off + 2) := by
  rw [le16, field16_toNat, leBytes_leAt h]

theorem le32_field32 {s : Bytes} {off : Nat} (h : off + 4 ≤ s.length) :
    le32 (field32 s off) = slice s off (off + 4) := by
  rw [le32, field32_toNat, leBytes_leAt h]

/-- A header encoded from the fields of twenty bytes with the right magic is those bytes (R70, R116). -/
theorem encHeader_fields {s : Bytes} (hl : headerLen ≤ s.length) (hm : slice s 0 4 = magicBytes) :
    encHeader (field32 s 4) (field32 s 8) (field32 s 12) (field16 s 16) (field16 s 18) = s.take headerLen := by
  unfold headerLen at hl
  calc encHeader (field32 s 4) (field32 s 8) (field32 s 12) (field16 s 16) (field16 s 18)
      = slice s 0 4 ++ slice s 4 8 ++ slice s 8 12 ++ slice s 12 16 ++ slice s 16 18 ++ slice s 18 20 := by
        rw [encHeader, hm, le32_field32 (by omega), le32_field32 (by omega), le32_field32 (by omega),
          le16_field16 (by omega), le16_field16 (by omega)]
    _ = slice s 0 20 := by
        rw [slice_append_slice s, slice_append_slice s, slice_append_slice s, slice_append_slice s,
          slice_append_slice s] <;> decide
    _ = s.take headerLen := rfl

/-- What the header decoder accepts: a named header whose twenty bytes stand in front (R70, R93). -/
theorem decodeHeaderWord_ok {s rest : Bytes} {i : Instr} (h : decodeHeaderWord s = .ok (i, rest)) :
    headerLen ≤ s.length ∧ rest = s.drop headerLen ∧ ∃ (f : FnName) (seq src dst : U32) (plen : U16),
      i = f.row seq src dst plen ∧ encHeader seq src dst f.code plen = s.take headerLen := by
  unfold decodeHeaderWord at h
  split_ifs at h with hl hm
  have hl := Nat.le_of_not_lt hl
  split at h
  next => cases h
  next f hf =>
    cases h
    refine ⟨hl, rfl, f, _, _, _, _, rfl, ?_⟩
    rw [code_of_fnName hf]
    exact encHeader_fields hl (not_not.1 hm)

/-- What the trailer decoder accepts: any two bytes (R71, R93). -/
theorem decodeTrailerWord_ok {s rest : Bytes} {i : Instr} (h : decodeTrailerWord s = .ok (i, rest)) :
    csumLen ≤ s.length ∧ rest = s.drop csumLen ∧ ∃ c : U16, i = .frameTrailer c ∧ le16 c = s.take csumLen := by
  unfold decodeTrailerWord at h
  split_ifs at h with hl
  cases h
  exact ⟨Nat.le_of_not_lt hl, rfl, _, rfl, le16_field16 (Nat.le_of_not_lt hl)⟩

end Sys2Proof

namespace Sys2Proof.Machine

/-! ### One fetch from the incoming stream (R50, R92) -/

/-- `i` stands at the front of the bytes `bs`, `rest` after it: it is one or more bytes of the stream, and
running it is `RX.BYTE` of each of them. -/
def TakesFront (bs : Bytes) (i : Instr) (rest : Bytes) : Prop :=
  ∃ w : Bytes, w ≠ [] ∧ bs = w ++ rest ∧ ∀ s : State, exec i s = .next (rxTakeAll w s)

/-- A word of `n` bytes that is `RX.BYTES` of the first `n` bytes takes those from the front. -/
theorem takesFront_take {bs : Bytes} {i : Instr} {n : Nat} (hn : 0 < n) (hl : n ≤ bs.length)
    (h : ∀ s, exec i s = .next (rxTakeAll (bs.take n) s)) : TakesFront bs i (bs.drop n) := by
  refine ⟨bs.take n, fun hnil => ?_, (List.take_append_drop n bs).symm, h⟩
  have := congrArg List.length hnil
  rw [List.length_take_of_le hl, List.length_nil] at this
  omega

theorem takesFront_byte (b : U8) (t : Bytes) : TakesFront (b :: t) (.rxByte b) t :=
  ⟨[b], List.cons_ne_nil b [], rfl, fun _ => rfl⟩

theorem takesFront_of_decodeHeaderWord {bs rest : Bytes} {i : Instr} (h : decodeHeaderWord bs = .ok (i, rest)) :
    TakesFront bs i rest := by
  obtain ⟨hl, rfl, f, seq, src, dst, plen, rfl, hw⟩ := decodeHeaderWord_ok h
  exact takesFront_take (by decide) hl fun s => hw ▸ exec_headerRow f seq src dst plen s

theorem takesFront_of_decodeTrailerWord {bs rest : Bytes} {i : Instr} (h : decodeTrailerWord bs = .ok (i, rest)) :
    TakesFront bs i rest := by
  obtain ⟨hl, rfl, c, rfl, hw⟩ := decodeTrailerWord_ok h
  exact takesFront_take (by decide) hl fun s => hw ▸ exec_frameTrailer c s

/-- What is fetched from the stream, a word or a byte, takes its own bytes from the front. -/
theorem takesFront_fetchStream (s : State) (b : U8) (t : Bytes) :
    TakesFront (b :: t) (fetchStream s b t).1 (fetchStream s b t).2 := by
  by_cases h : ∃ f r, s.rxExpects = some f ∧ decode s.params f (b :: t) = .ok r
  · obtain ⟨f, ⟨i, rest⟩, hf, hd⟩ := h
    rw [fetchStream_ok hf hd]
    obtain ⟨rfl, -, -⟩ | ⟨rfl, -, -⟩ := rxExpects_cases hf
    · exact takesFront_of_decodeHeaderWord hd
    · exact takesFront_of_decodeTrailerWord hd
  · rw [fetchStream_byte fun f r hf hd => h ⟨f, r, hf, hd⟩]
    exact takesFront_byte b t

/-- A step on the bytes of a `read` is `RX.BYTE` of one or more of them, and the others stay in front. -/
theorem step_read_takes {s : State} {b : U8} {t : Bytes} {q : List Issue} (h : s.pending = .read (b :: t) :: q) :
    ∃ w rest : Bytes, w ≠ [] ∧ b :: t = w ++ rest ∧
      step s = .next (rxTakeAll w (setPending (pushRead rest q) s)) := by
  obtain ⟨w, hw, hbs, hexec⟩ := takesFront_fetchStream s b t
  exact ⟨w, _, hw, hbs, (step_read h rfl).trans (hexec _)⟩

/-! ### The RX unit and the queue -/

theorem rxTake_setPending (b : U8) (q : List Issue) (s : State) :
    rxTake b (setPending q s) = setPending q (rxTake b s) := by
  unfold rxTake
  cases hp : s.rxPhase with
  | hdr | pay => simp only [setPending_rxPhase, hp]; rfl
  | csum => cases h0 : s.rxCs0 <;> simp only [setPending_rxPhase, setPending_rxCs0, hp, h0] <;> rfl

/-- Taking bytes neither reads nor writes the queue. -/
theorem rxTakeAll_setPending (bs : Bytes) (q : List Issue) (s : State) :
    rxTakeAll bs (setPending q s) = setPending q (rxTakeAll bs s) := by
  induction bs generalizing s with
  | nil => rfl
  | cons b t ih => rw [rxTakeAll, rxTakeAll, rxTake_setPending, ih]

/-! ### A whole `read` -/

theorem run_succ_of_step {s t : State} (n : Nat) (h : step s = .next t) :
    Sys2Proof.core.run (n + 1) s = Sys2Proof.core.run n t := by
  have hc : Sys2Proof.core.step s = .next t := h
  simp only [Host.Core.run, hc]

/-- A `read` is taken whole, and the state is that after `RX.BYTES` of its bytes: each step takes at least one
byte and leaves a shorter `read`, and a `read` that returned none is one step. -/
theorem run_read (bs : Bytes) (q : List Issue) (s : State) (h : s.pending = .read bs :: q) :
    ∃ n : Nat, 1 ≤ n ∧ n ≤ bs.length + 1 ∧
      Sys2Proof.core.run n s = .next (rxTakeAll bs (setPending q s)) := by
  match bs with
  | [] =>
    exact ⟨1, le_rfl, le_rfl, run_succ_of_step 0 (step_of_fetch_none (fetch_empty_read h))⟩
  | b :: t =>
    obtain ⟨w, rest, hw, hbs, hstep⟩ := step_read_takes h
    have hlen : (b :: t).length = w.length + rest.length := by rw [hbs, List.length_append]
    have hpos : 0 < w.length := List.length_pos_iff.2 hw
    by_cases hr : rest = []
    · subst hr
      rw [List.append_nil] at hbs
      exact ⟨1, le_rfl, by omega, hbs ▸ run_succ_of_step 0 hstep⟩
    · have hq : pushRead rest q = .read rest :: q := if_neg hr
      rw [hq] at hstep
      have hpend := (framed_rxTakeAll w (setPending (.read rest :: q) s)).pending
      obtain ⟨n, hn, hle, hrun⟩ := run_read rest q _ hpend
      refine ⟨n + 1, by omega, by omega, ?_⟩
      calc Sys2Proof.core.run (n + 1) s
          = .next (rxTakeAll rest (setPending q (rxTakeAll w (setPending (.read rest :: q) s)))) :=
            (run_succ_of_step n hstep).trans hrun
        _ = .next (rxTakeAll rest (rxTakeAll w (setPending q s))) := by
            rw [← rxTakeAll_setPending]; rfl
        _ = .next (rxTakeAll (b :: t) (setPending q s)) := by rw [hbs, rxTakeAll_append]
termination_by bs.length
decreasing_by omega

/-- Settles O51: by `run_read`, with `RX.BYTES` as the sequence of its operations. -/
theorem streamByWordsIsStreamByBytes : Obligations.StreamByWordsIsStreamByBytes := by
  intro bs q s h
  obtain ⟨n, hn, hle, hrun⟩ := run_read bs q s h
  exact ⟨n, hn, hle, hrun.trans (execAll_rxBytesOps bs _).symm⟩

/-! ### The parameters (R64, R222) -/

/-- No instruction changes a parameter, `RESET` included. -/
theorem exec_params {i : Instr} {s t : State} (h : exec i s = .next t) : t.params = s.params := by
  cases hu : unitOf i with
  | none =>
    cases eq_reset_of_unitOf_none hu
    cases h
    exact resetElements_params s
  | some u => exact (exec_framed hu h).params

/-- `CTRL_ID` keeps the value `CONTROLLER_ID`: `RESET` writes just that, nothing else writes it (R25). -/
theorem exec_keeps_ctrlId_param {i : Instr} {s t : State} (h : exec i s = .next t)
    (hc : s.ctrlId = s.params.controllerId) : t.ctrlId = s.params.controllerId := by
  cases hu : unitOf i with
  | none =>
    cases eq_reset_of_unitOf_none hu
    cases h
    exact resetElements_ctrlId s
  | some u => exact (exec_ctrlId hu h).trans hc

/-- Settles O7: a step takes from the queue, which is neither, and runs one instruction or none. -/
theorem parametersNeverChange : Obligations.ParametersNeverChange := by
  intro s t h
  obtain ⟨q, rfl | ⟨i, hi⟩⟩ := step_cases h
  · exact ⟨setPending_params q s, id⟩
  · exact ⟨exec_params (s := setPending q s) hi, exec_keeps_ctrlId_param (s := setPending q s) hi⟩

end Sys2Proof.Machine
end

section
/-! # The encodings (30_encoding.md)

Each of the three word decoders accepts just the encodings of its rows: one `↔` for each (`decodeHeaderWord_ok_iff`,
`decodeTrailerWord_ok_iff`, `decodeChunkWord_ok_iff`). That decoding and encoding agree both ways, that a row is
what its mask and match say, and that a placed word is fetched are read off these three. -/

namespace Sys2Proof

/-! ### The encoding of each family of rows (R70, R71, R80, R90) -/

@[simp] theorem encode_headerRow (p : Params) (f : FnName) (seq src dst : U32) (plen : U16) :
    encode p (f.row seq src dst plen) = encHeader seq src dst f.code plen := by
  cases f <;> rfl

@[simp] theorem encode_frameTrailer (p : Params) (c : U16) : encode p (.frameTrailer c) = le16 c := rfl

@[simp] theorem encode_chunkRow (p : Params) (d : DType) (id : U8) (size : U16) :
    encode p (d.row id size) = encChunkHeader id (p.tags.tagOf d) size := by
  cases d <;> rfl

@[simp] theorem format_toInstr (o : PortOp) : o.toInstr.format = .port := by
  cases o <;> rfl

/-- A chunk row that is well formed has a tag that stands for its variant: 0 and 21 under every tag map, the
others under a legal one (R7, R82). -/
theorem dtype_tagOf_of_wf {p : Params} {d : DType} {id : U8} {size : U16} (h : (d.row id size).wf p = true) :
    p.tags.dtype (p.tags.tagOf d) = some d := by
  cases d with
  | noneType | cardRange => rfl
  | _ => exact dtype_tagOf h _

/-! ### The fields of an encoded word (R85) -/

section
variable (seq src dst : U32) (fn len : U16) (rest : Bytes)

theorem slice_encHeader_magic : slice (encHeader seq src dst fn len ++ rest) 0 4 = magicBytes := by
  simp [encHeader, slice, magicBytes]

theorem field32_encHeader_seq : field32 (encHeader seq src dst fn len ++ rest) 4 = seq := by
  simpa [encHeader] using field32_le32 magicBytes (le32 src ++ (le32 dst ++ (le16 fn ++ (le16 len ++ rest)))) seq

theorem field32_encHeader_src : field32 (encHeader seq src dst fn len ++ rest) 8 = src := by
  simpa [encHeader] using field32_le32 (magicBytes ++ le32 seq) (le32 dst ++ (le16 fn ++ (le16 len ++ rest))) src

theorem field32_encHeader_dst : field32 (encHeader seq src dst fn len ++ rest) 12 = dst := by
  simpa [encHeader] using
    field32_le32 (magicBytes ++ (le32 seq ++ le32 src)) (le16 fn ++ (le16 len ++ rest)) dst

theorem field16_encHeader_fn : field16 (encHeader seq src dst fn len ++ rest) 16 = fn := by
  simpa [encHeader] using
    field16_le16 (magicBytes ++ (le32 seq ++ (le32 src ++ le32 dst))) (le16 len ++ rest) fn

theorem field16_encHeader_len : field16 (encHeader seq src dst fn len ++ rest) 18 = len := by
  simpa [encHeader] using
    field16_le16 (magicBytes ++ (le32 seq ++ (le32 src ++ (le32 dst ++ le16 fn)))) rest len

end

theorem field16_encChunkHeader_size (id tag : U8) (size : U16) (rest : Bytes) :
    field16 (encChunkHeader id tag size ++ rest) 2 = size :=
  field16_le16 [id, tag] rest size

/-- A chunk header encoded from the fields of four bytes is those bytes (R80). -/
theorem encChunkHeader_fields {s : Bytes} (hl : chunkHdrLen ≤ s.length) :
    encChunkHeader (field8 s 0) (field8 s 1) (field16 s 2) = s.take chunkHdrLen := by
  have h01 : [field8 s 0, field8 s 1] = slice s 0 2 := by
    match s, hl with
    | _ :: _ :: _, _ => rfl
  rw [encChunkHeader, le16_field16 hl, h01, slice_append_slice s (by decide) (by decide)]
  rfl

/-! ### What each decoder accepts (R70, R71, R80, R93) -/

theorem decodeHeaderWord_ok_iff {bs rest : Bytes} {i : Instr} :
    decodeHeaderWord bs = .ok (i, rest) ↔ ∃ (f : FnName) (seq src dst : U32) (plen : U16),
      i = f.row seq src dst plen ∧ bs = encHeader seq src dst f.code plen ++ rest := by
  constructor
  · intro h
    obtain ⟨-, rfl, f, seq, src, dst, plen, hi, hw⟩ := decodeHeaderWord_ok h
    exact ⟨f, seq, src, dst, plen, hi, by rw [hw, List.take_append_drop]⟩
  · rintro ⟨f, seq, src, dst, plen, rfl, rfl⟩
    simp [decodeHeaderWord, headerLen, slice_encHeader_magic, field32_encHeader_seq, field32_encHeader_src,
      field32_encHeader_dst, field16_encHeader_fn, field16_encHeader_len, fnName_code]

theorem decodeTrailerWord_ok_iff {bs rest : Bytes} {i : Instr} :
    decodeTrailerWord bs = .ok (i, rest) ↔ ∃ c : U16, i = .frameTrailer c ∧ bs = le16 c ++ rest := by
  constructor
  · intro h
    obtain ⟨-, rfl, c, hi, hw⟩ := decodeTrailerWord_ok h
    exact ⟨c, hi, by rw [hw, List.take_append_drop]⟩
  · rintro ⟨c, rfl, rfl⟩
    have hc : field16 (le16 c ++ rest) 0 = c := field16_le16 [] rest c
    have hl : ¬ (le16 c ++ rest).length < csumLen := by
      rw [List.length_append, le16_length, csumLen]
      omega
    rw [decodeTrailerWord, if_neg hl, hc]
    rfl

theorem decodeChunkWord_ok_iff {m : TagMap} {bs rest : Bytes} {i : Instr} :
    decodeChunkWord m bs = .ok (i, rest) ↔ ∃ (d : DType) (id : U8) (size : U16),
      m.dtype (m.tagOf d) = some d ∧ i = d.row id size ∧ bs = encChunkHeader id (m.tagOf d) size ++ rest := by
  constructor
  · intro h
    unfold decodeChunkWord at h
    split_ifs at h with hl
    split at h
    next => cases h
    next d hd =>
      cases h
      have ht := tagOf_of_dtype hd
      refine ⟨d, _, _, ht.symm ▸ hd, rfl, ?_⟩
      rw [ht, encChunkHeader_fields (Nat.le_of_not_lt hl), List.take_append_drop]
  · rintro ⟨d, id, size, hd, rfl, rfl⟩
    have htag : field8 (encChunkHeader id (m.tagOf d) size ++ rest) 1 = m.tagOf d := rfl
    have hid : field8 (encChunkHeader id (m.tagOf d) size ++ rest) 0 = id := rfl
    simp [decodeChunkWord, chunkHdrLen, htag, hid, hd, field16_encChunkHeader_size]

end Sys2Proof

namespace Sys2Proof.Machine

/-! ### Decoding and encoding agree (R93) -/

/-- Settles O45: the encoding of a row followed by any bytes is what the decoder of the row's format accepts. -/
theorem decodeEncodeAgree : Obligations.DecodeEncodeAgree := by
  intro p i rest hwf hf
  induction i using Instr.byFormat with
  | header f seq src dst plen =>
    rw [format_headerRow, encode_headerRow]
    exact decodeHeaderWord_ok_iff.2 ⟨f, seq, src, dst, plen, rfl, rfl⟩
  | trailer c => exact decodeTrailerWord_ok_iff.2 ⟨c, rfl, rfl⟩
  | chunk d id size =>
    rw [format_chunkRow, encode_chunkRow]
    exact decodeChunkWord_ok_iff.2 ⟨d, id, size, dtype_tagOf_of_wf hwf, rfl, rfl⟩
  | op o => exact absurd (format_toInstr o) hf

/-- Settles O46: a decoder accepts nothing but the encodings of the rows of its format. -/
theorem encodeDecodeAgree : Obligations.EncodeDecodeAgree := by
  intro p f bs rest i h
  cases f with
  | fh =>
    obtain ⟨f, seq, src, dst, plen, rfl, rfl⟩ := decodeHeaderWord_ok_iff.1 h
    exact ⟨format_headerRow .., by rw [encode_headerRow]⟩
  | ft =>
    obtain ⟨c, rfl, rfl⟩ := decodeTrailerWord_ok_iff.1 h
    exact ⟨rfl, rfl⟩
  | ch =>
    obtain ⟨d, id, size, -, rfl, rfl⟩ := decodeChunkWord_ok_iff.1 h
    exact ⟨format_chunkRow .., by rw [encode_chunkRow]⟩
  | port => cases h

/-- Settles O49: five words that are encodings of their rows, and three that fail one test of the decoder. -/
theorem sampleWordsDecode : Obligations.SampleWordsDecode := by
  have encoded (i : Instr) (rest : Bytes) := decodeEncodeAgree Config.referenceParams i rest
  exact ⟨encoded (.frameReqWhoami 1 1234 0 0) [] rfl nofun, encoded (.frameTrailer 0x0D34) [] rfl nofun,
    encoded (.chunkCardRange 7 2) [0x00, 0x0A] rfl nofun, encoded (.chunkNone 0x10 0) [] rfl nofun,
    encoded (.chunkU16 0x14 2) [] (by decide) nofun, rfl, rfl, rfl⟩

end Sys2Proof.Machine
end

section
/-! # Frame words on the wire

What `TX.ENC` emits is made of table words (R72); a header word fills an empty RX unit, and a trailer word
completes the frame (R135 to R137). -/

namespace Sys2Proof.Machine

/-! ### What `TX.ENC` emits (R72, R117) -/

/-- A payload within the bound is encoded and emitted, and nothing else changes (R118). -/
theorem exec_txEnc_of_le (seq src dst : U32) (fn : U16) {p : Bytes} (s : State) (hp : p.length ≤ payloadMax) :
    exec (.txEnc seq src dst fn p) s = .next (emit (.txOut (encodeFrame seq src dst fn p)) s) :=
  congrArg Host.Outcome.next (if_neg (Nat.not_lt.2 hp))

/-- Settles O22: the frame of R117, with its header read as the header row of the function. -/
theorem txFramesAreHeaderPayloadTrailer : Obligations.TxFramesAreHeaderPayloadTrailer := by
  intro f seq src dst p s hp
  rw [encode_headerRow, encode_frameTrailer]
  exact exec_txEnc_of_le seq src dst f.code s hp

/-! ### A header word at an empty RX unit (R135, R136) -/

/-- Bytes that arrive within the header are appended to it and folded into `RX_CRC`; the phase changes only where
they complete the header. -/
theorem rxTakeAll_within_header (bs : Bytes) (s : State) (hp : s.rxPhase = .hdr) (hlt : s.rxHdr.length < headerLen)
    (hle : (s.rxHdr ++ bs).length ≤ headerLen) :
    rxTakeAll bs s = { s with
      rxHdr := s.rxHdr ++ bs
      rxCrc := crcFold s.rxCrc bs
      rxPhase := if (s.rxHdr ++ bs).length = headerLen then phaseAfterHeader (s.rxHdr ++ bs) else .hdr } := by
  induction bs generalizing s with
  | nil => simp [rxTakeAll, crcFold, hlt.ne, ← hp]
  | cons b t ih =>
    have happ : s.rxHdr ++ b :: t = (s.rxHdr ++ [b]) ++ t := by simp
    rw [rxTakeAll, rxTake_hdr hp]
    by_cases hlast : (s.rxHdr ++ [b]).length = headerLen
    · have ht : t = [] := by
        rw [happ, List.length_append, hlast] at hle
        exact List.eq_nil_of_length_eq_zero (by omega)
      subst ht
      simp only [rxTakeAll, rxPutHeader, crcFold, hlast, if_true]
    · have hphase : (rxPutHeader b s).rxPhase = .hdr := by
        simp only [rxPutHeader_rxPhase, hlast, if_false, hp]
      have hlt' : (s.rxHdr ++ [b]).length < headerLen := by
        rw [List.length_append, List.length_singleton] at hlast ⊢
        omega
      rw [happ] at hle ⊢
      exact (ih (rxPutHeader b s) hphase hlt' hle).trans rfl

/-- Twenty bytes at an empty RX unit are its header (R135, R136). -/
theorem rxTakeAll_header {w : Bytes} {s : State} (hs : s.rxEmpty) (hw : w.length = headerLen) :
    rxTakeAll w s = { s with rxHdr := w, rxCrc := crc16 w, rxPhase := phaseAfterHeader w } := by
  obtain ⟨hp, hh, -, -, hc⟩ := hs
  rw [rxTakeAll_within_header w s hp (by rw [hh]; decide) (by rw [hh]; exact hw.le)]
  simp [hh, hc, hw, crc16]

theorem phaseAfterHeader_encHeader (seq src dst : U32) (fn plen : U16) :
    phaseAfterHeader (encHeader seq src dst fn plen) = if plen = 0 then .csum else .pay := by
  have h := field16_encHeader_len seq src dst fn plen []
  rw [List.append_nil] at h
  rw [phaseAfterHeader, h]

/-- A header row fills an empty RX unit, whatever its function (R75). -/
theorem exec_headerRow_of_rxEmpty (f : FnName) (seq src dst : U32) (plen : U16) {s : State} (hs : s.rxEmpty) :
    exec (f.row seq src dst plen) s = .next { s with
      rxHdr := encHeader seq src dst f.code plen
      rxCrc := crc16 (encHeader seq src dst f.code plen)
      rxPhase := if plen = 0 then .csum else .pay } := by
  rw [exec_headerRow, rxTakeAll_header hs (encHeader_length ..), phaseAfterHeader_encHeader]

/-- Settles O29: each row of the list is a named function's, and the word spelled out there is its encoding. -/
theorem headerWordsFillAnEmptyUnit : Obligations.HeaderWordsFillAnEmptyUnit := by
  intro row hrow seq src dst plen s hs
  obtain ⟨f, rfl⟩ : ∃ f : FnName, row = (f.row, f.code) := by
    simp only [List.mem_cons, List.not_mem_nil, or_false] at hrow
    obtain h | h | h | h | h | h | h | h := hrow
    exacts [⟨.reqWhoami, h⟩, ⟨.respWhoami, h⟩, ⟨.reqStatus, h⟩, ⟨.respStatus, h⟩, ⟨.reqWriteData, h⟩,
      ⟨.respWriteData, h⟩, ⟨.reqReadData, h⟩, ⟨.respReadData, h⟩]
  simp only [← le16_eq, ← le32_eq]
  exact exec_headerRow_of_rxEmpty f seq src dst plen hs

/-! ### A trailer word at a frame's end (R71, R137) -/

/-- The two checksum bytes complete the frame: the verdict of `decode_frame` goes out and the unit is empty. -/
theorem rxTakeAll_trailer {c0 c1 : U8} {s : State} (hp : s.rxPhase = .csum) (h0 : s.rxCs0 = none) :
    rxTakeAll [c0, c1] s =
      rxClear (emit (.rxEvt (decodeFrame (headerRec s.rxHdr) s.rxPay [c0, c1])) s) := by
  rw [rxTakeAll, rxTakeAll, rxTakeAll, rxTake_low hp h0, rxTake_high (s := rxHoldLow c0 s) hp rfl]
  rfl

/-- `decode_frame` on the bytes of a checksum: the magic is tested first, then the checksum (R132, R207). -/
theorem decodeFrame_le16 (h : HeaderRec) (p : Bytes) (c : U16) :
    decodeFrame h p (le16 c) =
      if h.magic = magicBytes then
        if c = crc16 (h.raw ++ p) then .frame h.fields p c else .checksumMismatch h.fields c (crc16 (h.raw ++ p))
      else .badMagic h.magic h.fields c (crc16 (h.raw ++ p)) := by
  have hc : field16 (le16 c) 0 = c := by simpa using field16_le16 [] [] c
  simp only [decodeFrame, hc, magicOk, beq_iff_eq]

/-- Settles O30: the trailer's two bytes are the low and the high checksum byte. -/
theorem trailerWordCompletesTheFrame : Obligations.TrailerWordCompletesTheFrame := by
  intro c s hp h0
  have hv := decodeFrame_le16 (headerRec s.rxHdr) s.rxPay c
  rw [exec_frameTrailer, le16_eq, rxTakeAll_trailer hp h0, ← le16_eq, hv]
  rfl

/-! ### A placed word (notes/assumptions/5.md) -/

/-- Bytes after a chunk word do not change what it decodes to. -/
theorem decode_ch_append {p : Params} {bs rest : Bytes} {i : Instr} (t : Bytes)
    (h : decode p .ch bs = .ok (i, rest)) : decode p .ch (bs ++ t) = .ok (i, rest ++ t) := by
  obtain ⟨d, id, size, hd, rfl, rfl⟩ := decodeChunkWord_ok_iff.1 h
  exact decodeChunkWord_ok_iff.2 ⟨d, id, size, hd, rfl, List.append_assoc ..⟩

/-- A word that stands where the RX unit expects one, put in front of the stream, is run by the next step, and
the queue is as it was. -/
theorem step_placed_word {s : State} {f : Format} {w : Bytes} {i : Instr} (hf : s.rxExpects = some f)
    (hd : decode s.params f w = .ok (i, [])) (hw : w ≠ []) :
    step (setPending (.read w :: s.pending) s) = exec i s := by
  obtain ⟨b, t, rfl⟩ := List.exists_cons_of_ne_nil hw
  have hrestored : setPending (pushRead [] s.pending) (setPending (.read (b :: t) :: s.pending) s) = s := rfl
  have hfetch : fetchStream (setPending (.read (b :: t) :: s.pending) s) b t = (i, []) := fetchStream_ok hf hd
  rw [step_read rfl hfetch, hrestored]

/-- A chunk word at the cursor of an active unit is run by the next step on a `TLV.STEP`, and the queue is as it
was. -/
theorem step_placed_chunk {s : State} {i : Instr} {rest : Bytes} (ha : s.tlvActive = true)
    (hd : decode s.params .ch (s.tlvBuf.drop s.tlvCur) = .ok (i, rest)) :
    step (setPending (.op .tlvStep :: s.pending) s) = exec i s := by
  have hrestored : setPending s.pending (setPending (.op .tlvStep :: s.pending) s) = s := rfl
  have hfetch : fetchOp (setPending (.op .tlvStep :: s.pending) s) .tlvStep = i := fetchOp_tlvStep_ok ha hd
  rw [step_op rfl, hfetch, hrestored]

theorem formatOfWidth_cases (nbits : Nat) :
    nbits = 160 ∨ nbits = 32 ∨ nbits = 16 ∨ formatOfWidth nbits = .port := by
  unfold formatOfWidth
  split <;> simp

theorem decodeWord_eq_some {p : Params} {nbits w : Nat} {i : Instr} (h : decodeWord p nbits w = some i) :
    ∃ rest, decode p (formatOfWidth nbits) (leBytes (nbits / 8) w) = .ok (i, rest) := by
  unfold decodeWord at h
  split at h
  next hd => cases h; exact ⟨_, hd⟩
  next => cases h

/-- The bytes of a header word leave none after it. -/
theorem decode_fh_leBytes {p : Params} {w : Nat} {rest : Bytes} {i : Instr}
    (h : decode p .fh (leBytes 20 w) = .ok (i, rest)) : rest = [] := by
  obtain ⟨-, rfl, -⟩ := decodeHeaderWord_ok h
  exact List.drop_of_length_le (leBytes_length ..).le

/-- The bytes of a trailer word leave none after it. -/
theorem decode_ft_leBytes {p : Params} {w : Nat} {rest : Bytes} {i : Instr}
    (h : decode p .ft (leBytes 2 w) = .ok (i, rest)) : rest = [] := by
  obtain ⟨-, rfl, -⟩ := decodeTrailerWord_ok h
  exact List.drop_of_length_le (leBytes_length ..).le

/-- Settles O52, by the widths of the table: no other width decodes. -/
theorem placedWordsRunNext : Obligations.PlacedWordsRunNext := by
  intro s nbits w i h
  obtain ⟨rest, hd⟩ := decodeWord_eq_some h
  have hfmt := (encodeDecodeAgree _ _ _ _ _ hd).1
  rw [hfmt]
  obtain rfl | rfl | rfl | hport := formatOfWidth_cases nbits
  · cases decode_fh_leBytes hd
    exact step_placed_word (s := atHeader s) rfl hd (List.cons_ne_nil _ _)
  · exact step_placed_chunk (s := atChunk (leBytes 4 w) s) rfl (decode_ch_append _ hd)
  · cases decode_ft_leBytes hd
    exact step_placed_word (s := atTrailer s) rfl hd (List.cons_ne_nil _ _)
  · rw [hport] at hd
    cases hd

end Sys2Proof.Machine
end

section
/-! # A row is its mask and its match (R93)

The integer a word stands for holds each field at its own bits (`leAt_eq`), a row's mask keeps just the bits of
the fields that its match fixes, and those fields are what the decoder tests. -/

namespace Sys2Proof

/-! ### Little-endian integers of parts (R9) -/

theorem leNat_append (a b : Bytes) : leNat (a ++ b) = leNat a + 256 ^ a.length * leNat b := by
  induction a with
  | nil => simp [leNat]
  | cons x a ih =>
    rw [List.cons_append, leNat, leNat, ih, List.length_cons, Nat.pow_succ]
    ring

theorem leNat_take (s : Bytes) (n : Nat) : leNat (s.take n) = leNat s % 256 ^ n := by
  obtain hn | hn := Nat.le_total n s.length
  · have h := leNat_append (s.take n) (s.drop n)
    have hlt := leNat_lt (s.take n)
    rw [List.length_take_of_le hn] at h hlt
    rw [List.take_append_drop] at h
    rw [h, Nat.add_mul_mod_self_left, Nat.mod_eq_of_lt hlt]
  · have hlt : leNat s < 256 ^ n := (leNat_lt s).trans_le (Nat.pow_le_pow_right (by decide) hn)
    rw [List.take_of_length_le hn, Nat.mod_eq_of_lt hlt]

theorem leNat_drop (s : Bytes) (n : Nat) : leNat (s.drop n) = leNat s / 256 ^ n := by
  obtain hn | hn := Nat.le_total n s.length
  · have h := leNat_append (s.take n) (s.drop n)
    have hlt := leNat_lt (s.take n)
    rw [List.length_take_of_le hn] at h hlt
    rw [List.take_append_drop] at h
    rw [h, Nat.add_mul_div_left _ _ (by positivity), Nat.div_eq_of_lt hlt, Nat.zero_add]
  · have hlt : leNat s < 256 ^ n := (leNat_lt s).trans_le (Nat.pow_le_pow_right (by decide) hn)
    rw [List.drop_of_length_le hn, Nat.div_eq_of_lt hlt]
    rfl

/-- The `n` bytes at `off` are those digits of the whole to the base 256, also where they reach past its end. -/
theorem leAt_eq (s : Bytes) (off n : Nat) : leAt s off n = leNat s / 256 ^ off % 256 ^ n := by
  rw [leAt, slice, Nat.add_sub_cancel_left, leNat_take, leNat_drop]

/-- Bytes of one length that stand for one integer are the same bytes. -/
theorem eq_of_leNat_eq {s t : Bytes} (hl : s.length = t.length) (h : leNat s = leNat t) : s = t := by
  rw [← leBytes_leNat s, ← leBytes_leNat t, hl, h]

theorem field8_toNat (s : Bytes) (off : Nat) : (field8 s off).toNat = leAt s off 1 := by
  have hslice : slice s off (off + 1) = (s[off]?).toList := by
    rw [slice, Nat.add_sub_cancel_left, List.take_one, List.head?_drop]
  rw [field8, List.getD_eq_getElem?_getD, leAt, hslice]
  cases s[off]? <;> simp [leNat]

/-- The magic as the integer of the header's first four bytes (R70, R93). -/
theorem slice_eq_magicBytes_iff {s : Bytes} (hl : 4 ≤ s.length) :
    slice s 0 4 = magicBytes ↔ field32 s 0 = 0x41525541#32 := by
  have hval : (field32 s 0).toNat = leNat (slice s 0 4) := field32_toNat s 0
  constructor
  · intro h
    apply BitVec.eq_of_toNat_eq
    rw [hval, h]
    rfl
  · intro h
    refine eq_of_leNat_eq (slice_length hl) ?_
    rw [← hval, h]
    rfl

/-! ### What a mask keeps of a word -/

/-- A mask is applied to the low bits and to the bits above them separately. -/
theorem and_two_pow_mul_add (v b : Nat) {a n : Nat} (ha : a < 2 ^ n) :
    v &&& (2 ^ n * b + a) = 2 ^ n * (v / 2 ^ n &&& b) + (v % 2 ^ n &&& a) := by
  have hdiv : (2 ^ n * b + a) / 2 ^ n = b := by
    rw [Nat.mul_add_div (by positivity), Nat.div_eq_of_lt ha, Nat.add_zero]
  have hmod : (2 ^ n * b + a) % 2 ^ n = a := by rw [Nat.mul_add_mod, Nat.mod_eq_of_lt ha]
  rw [← Nat.div_add_mod (v &&& (2 ^ n * b + a)) (2 ^ n), Nat.and_div_two_pow, Nat.and_mod_two_pow, hdiv, hmod]

/-- A header row's mask keeps the low 32 bits and the 16 bits from bit 128 on. -/
theorem and_headerMask (v : Nat) :
    v &&& 0x0000FFFF000000000000000000000000FFFFFFFF = v / 2 ^ 128 % 2 ^ 16 * 2 ^ 128 + v % 2 ^ 32 := by
  have hmask : 0x0000FFFF000000000000000000000000FFFFFFFF =
      2 ^ 32 * (2 ^ 96 * (2 ^ 16 - 1) + 0) + (2 ^ 32 - 1) := by norm_num
  rw [hmask, and_two_pow_mul_add _ _ (by norm_num), and_two_pow_mul_add _ _ (by norm_num),
    Nat.and_two_pow_sub_one_eq_mod, Nat.and_two_pow_sub_one_eq_mod, Nat.and_zero, Nat.div_div_eq_div_mul, Nat.mod_mod]
  omega

/-- A chunk row's mask keeps the 8 bits from bit 8 on. -/
theorem and_chunkMask (v : Nat) : v &&& 0x0000FF00 = v / 2 ^ 8 % 2 ^ 8 * 2 ^ 8 := by
  have hmask : 0x0000FF00 = 2 ^ 8 * (2 ^ 8 - 1) + 0 := by norm_num
  rw [hmask, and_two_pow_mul_add _ _ (by norm_num), Nat.and_two_pow_sub_one_eq_mod, Nat.and_zero, Nat.add_zero,
    Nat.mul_comm]

theorem headerInt_toNat (s : Bytes) : (headerInt s).toNat = leAt s 0 20 :=
  Nat.mod_eq_of_lt (leAt_lt s 0 20)

theorem chunkInt_toNat (s : Bytes) : (chunkInt s).toNat = leAt s 0 4 :=
  Nat.mod_eq_of_lt (leAt_lt s 0 4)

/-- Of a header's integer the mask keeps `function` and the magic (R70, R93). -/
theorem headerInt_and_mask (s : Bytes) :
    (headerInt s &&& 0x0000FFFF000000000000000000000000FFFFFFFF#160).toNat =
      (field16 s 16).toNat * 2 ^ 128 + (field32 s 0).toNat := by
  rw [BitVec.toNat_and, headerInt_toNat, BitVec.toNat_ofNat, Nat.mod_eq_of_lt (by norm_num), and_headerMask,
    field16_toNat, field32_toNat, leAt_eq, leAt_eq, leAt_eq]
  omega

/-- Of a chunk header's integer the mask keeps the tag (R80, R93). -/
theorem chunkInt_and_mask (s : Bytes) :
    (chunkInt s &&& 0x0000FF00#32).toNat = (field8 s 1).toNat * 2 ^ 8 := by
  rw [BitVec.toNat_and, chunkInt_toNat, BitVec.toNat_ofNat, Nat.mod_eq_of_lt (by norm_num), and_chunkMask,
    field8_toNat, leAt_eq, leAt_eq]
  omega

/-- A masked header equals a row's match exactly when it has the magic and the function of the row. -/
theorem headerInt_and_mask_eq_iff (s : Bytes) (c : U16) :
    headerInt s &&& 0x0000FFFF000000000000000000000000FFFFFFFF#160 =
        BitVec.ofNat 160 (c.toNat * 2 ^ 128 + 0x41525541) ↔
      field32 s 0 = 0x41525541#32 ∧ field16 s 16 = c := by
  have hc := c.isLt
  have hm := (field32 s 0).isLt
  rw [← BitVec.toNat_inj, ← BitVec.toNat_inj, ← BitVec.toNat_inj, headerInt_and_mask, BitVec.toNat_ofNat,
    BitVec.toNat_ofNat]
  omega

/-- A masked chunk header equals a variant's match exactly when it has the variant's tag. -/
theorem chunkInt_and_mask_eq_iff (s : Bytes) (t : U8) :
    chunkInt s &&& 0x0000FF00#32 = BitVec.ofNat 32 (t.toNat * 2 ^ 8) ↔ field8 s 1 = t := by
  have ht := t.isLt
  rw [← BitVec.toNat_inj, ← BitVec.toNat_inj, chunkInt_and_mask, BitVec.toNat_ofNat]
  omega

end Sys2Proof

namespace Sys2Proof.Machine

/-! ### What the decoder tests (R93) -/

/-- Twenty bytes are the header row of a function exactly when they have the magic and the function's code. -/
theorem decode_fh_row_iff (p : Params) {bs : Bytes} (f : FnName) (hl : bs.length = headerLen) :
    (∃ seq src dst plen, decode p .fh bs = .ok (f.row seq src dst plen, [])) ↔
      slice bs 0 4 = magicBytes ∧ field16 bs 16 = f.code := by
  constructor
  · rintro ⟨seq, src, dst, plen, h⟩
    obtain ⟨-, hw⟩ := encodeDecodeAgree _ _ _ _ _ h
    rw [encode_headerRow] at hw
    exact hw ▸ ⟨slice_encHeader_magic .., field16_encHeader_fn ..⟩
  · rintro ⟨hm, hf⟩
    have hw := encHeader_fields hl.ge hm
    rw [hf, List.take_of_length_le hl.le] at hw
    exact ⟨_, _, _, _, decodeHeaderWord_ok_iff.2 ⟨f, _, _, _, _, rfl, by rw [hw, List.append_nil]⟩⟩

/-- Four bytes are the chunk row of a variant exactly when they have the variant's tag, under legal parameters. -/
theorem decode_ch_row_iff {p : Params} {bs : Bytes} (d : DType) (hp : p.wf = true) (hl : bs.length = chunkHdrLen) :
    (∃ id size, decode p .ch bs = .ok (d.row id size, [])) ↔ field8 bs 1 = p.tags.tagOf d := by
  constructor
  · rintro ⟨id, size, h⟩
    obtain ⟨-, rfl⟩ := encodeDecodeAgree _ _ _ _ _ h
    rw [encode_chunkRow]
    rfl
  · intro ht
    have hw := encChunkHeader_fields hl.ge
    rw [ht, List.take_of_length_le hl.le] at hw
    exact ⟨_, _, decodeChunkWord_ok_iff.2 ⟨d, _, _, dtype_tagOf hp d, rfl, by rw [hw, List.append_nil]⟩⟩

/-- Settles O47: the mask keeps of a word just the fields that the decoder tests. -/
theorem rowsMatchTheirMask : Obligations.RowsMatchTheirMask := by
  refine ⟨fun p bs f hl => ?header, fun p bs d hp hl => ?chunk⟩
  case header =>
    rw [decode_fh_row_iff p f hl, slice_eq_magicBytes_iff (by omega), headerInt_and_mask_eq_iff]
  case chunk => rw [decode_ch_row_iff d hp hl, chunkInt_and_mask_eq_iff]

end Sys2Proof.Machine
end

section
/-! # The checksum step (R101, R104)

One shift is linear over exclusive or and takes only 0 to 0, since the polynomial's top bit is set. So `crc_upd` is
linear, and two registers, or two bytes, that differ before it differ after it. -/

namespace Sys2Proof.Machine

/-! ### The CRC unit's operations (R106, R107) and the fold (R102) -/

/-- Settles O12: `CRC.INIT` is one write of `CRC`. -/
theorem crcInitSetsTheRegister : Obligations.CrcInitSetsTheRegister := fun _ => rfl

/-- Settles O13: the eight shifts of `crc_upd`, spelled out. -/
theorem crcUpdShiftsEightTimes : Obligations.CrcUpdShiftsEightTimes := fun _ _ => rfl

/-- Settles O15: the equations of the fold, and the fold over a sequence in two parts. -/
theorem checksumContinuesFromAPrefix : Obligations.ChecksumContinuesFromAPrefix :=
  ⟨fun _ => rfl, fun _ _ _ => rfl, rfl, crcFold_append 0xFFFF⟩

/-! ### Linearity -/

/-- What a shift adds to the register when `out` is the bit shifted out (R101). -/
def crcFeedback (out : Bool) : U16 := if out then 0xA001#16 else 0#16

theorem crcFeedback_xor (a b : Bool) : crcFeedback (a ^^ b) = crcFeedback a ^^^ crcFeedback b := by
  revert a b
  decide

theorem crcShift_eq (r : U16) : crcShift r = (r >>> 1) ^^^ crcFeedback (r.getLsbD 0) := by
  unfold crcShift crcFeedback
  cases r.getLsbD 0 with
  | false => exact BitVec.xor_zero.symm
  | true => rfl

theorem crcShift_xor (r s : U16) : crcShift (r ^^^ s) = crcShift r ^^^ crcShift s := by
  rw [crcShift_eq, crcShift_eq, crcShift_eq, BitVec.getLsbD_xor, BitVec.ushiftRight_xor_distrib, crcFeedback_xor]
  ac_rfl

theorem crcShifts_xor (n : Nat) (r s : U16) : crcShifts n (r ^^^ s) = crcShifts n r ^^^ crcShifts n s := by
  induction n generalizing r s with
  | zero => rfl
  | succ n ih => rw [crcShifts, crcShifts, crcShifts, crcShift_xor, ih]

theorem crcUpd_xor (r₁ r₂ : U16) (b₁ b₂ : U8) :
    crcUpd (r₁ ^^^ r₂) (b₁ ^^^ b₂) = crcUpd r₁ b₁ ^^^ crcUpd r₂ b₂ := by
  rw [crcUpd, crcUpd, crcUpd, ← crcShifts_xor, BitVec.setWidth_xor]
  ac_rfl

/-! ### The table form -/

/-- Shifts that shift out no 1 only shift. -/
theorem crcShifts_of_low_zero {n : Nat} {r : U16} (h : ∀ i < n, r.getLsbD i = false) :
    crcShifts n r = r >>> n := by
  induction n generalizing r with
  | zero => simp [crcShifts]
  | succ n ih =>
    have hshift : crcShift r = r >>> 1 := by simp only [crcShift, h 0 n.succ_pos, Bool.false_eq_true, if_false]
    rw [crcShifts, hshift, ih fun i hi => ?low, ← BitVec.shiftRight_add, Nat.add_comm]
    case low => rw [BitVec.getLsbD_ushiftRight]; exact h _ (by omega)

theorem highByte_xor_lowByte (x : U16) : ((x >>> 8) <<< 8) ^^^ (x.setWidth 8).setWidth 16 = x := by
  apply BitVec.eq_of_getLsbD_eq
  intro i hi
  obtain hlow | hhigh := Nat.lt_or_ge i 8
  · simp [hi, hlow]
  · simp [hi, Nat.not_lt.2 hhigh, Nat.add_sub_of_le hhigh]

/-- The high byte of the register is only shifted down; the low byte alone meets the polynomial. -/
theorem crcShifts_eight (x : U16) : crcShifts 8 x = (x >>> 8) ^^^ crcShifts 8 ((x.setWidth 8).setWidth 16) := by
  have hhigh : crcShifts 8 ((x >>> 8) <<< 8) = x >>> 8 := by
    rw [crcShifts_of_low_zero fun i hi => by simp [hi]]
    bv_omega
  rw [← hhigh, ← crcShifts_xor, highByte_xor_lowByte]

/-- The table form of R104: the message byte is entered in the low byte. -/
theorem crcUpd_eq_table (r : U16) (b : U8) :
    crcUpd r b = (r >>> 8) ^^^ crcUpd 0#16 ((r ^^^ b.setWidth 16).setWidth 8) := by
  have hbyte : b.setWidth 16 >>> 8 = 0#16 := by bv_omega
  rw [crcUpd, crcUpd, BitVec.zero_xor, crcShifts_eight, BitVec.ushiftRight_xor_distrib, hbyte, BitVec.xor_zero]

/-- Settles O16, by the linearity of one shift. -/
theorem crcStepIsLinearAndHasItsTableForm : Obligations.CrcStepIsLinearAndHasItsTableForm :=
  ⟨crcUpd_xor, crcUpd_eq_table⟩

/-! ### No difference is lost -/

/-- `x` does not divide the polynomial (R105 (b)): the top bit after a shift is the bit shifted out. -/
theorem getLsbD_crcShift_top (r : U16) : (crcShift r).getLsbD 15 = r.getLsbD 0 := by
  have hfeedback : ∀ out, (crcFeedback out).getLsbD 15 = out := by decide
  rw [crcShift_eq, BitVec.getLsbD_xor, hfeedback]
  simp

theorem eq_zero_of_crcShift_eq_zero {r : U16} (h : crcShift r = 0#16) : r = 0#16 := by
  have hout : r.getLsbD 0 = false := by rw [← getLsbD_crcShift_top, h, BitVec.getLsbD_zero]
  have hrest : r >>> 1 = 0#16 := by
    rwa [crcShift_eq, hout, crcFeedback, if_neg Bool.false_ne_true, BitVec.xor_zero] at h
  have heven : r.toNat % 2 = 0 := by simpa [BitVec.getLsbD] using hout
  bv_omega

theorem crcShift_injective : Function.Injective crcShift := by
  intro r s h
  have hz : crcShift (r ^^^ s) = 0#16 := by rw [crcShift_xor, h, BitVec.xor_self]
  exact BitVec.xor_eq_zero_iff.1 (eq_zero_of_crcShift_eq_zero hz)

theorem crcShifts_injective (n : Nat) : Function.Injective (crcShifts n) := by
  induction n with
  | zero => exact Function.injective_id
  | succ n ih => exact ih.comp crcShift_injective

theorem crcUpd_left_injective (b : U8) : Function.Injective (crcUpd · b) :=
  fun _ _ h => (BitVec.xor_left_inj _).1 (crcShifts_injective 8 h)

theorem crcUpd_right_injective (r : U16) : Function.Injective (crcUpd r) := by
  intro a b h
  have hw : a.setWidth 16 = b.setWidth 16 := (BitVec.xor_right_inj _).1 (crcShifts_injective 8 h)
  bv_omega

theorem crcFold_injective (bs : Bytes) : Function.Injective (crcFold · bs) := by
  induction bs with
  | nil => exact Function.injective_id
  | cons b t ih => exact ih.comp (crcUpd_left_injective b)

/-- A byte replaced by another changes the checksum, whatever stands before and after it. -/
theorem eq_getD_of_crcFold_set {r : U16} {bs : Bytes} {k : Nat} {v : U8} (hk : k < bs.length)
    (h : crcFold r (bs.set k v) = crcFold r bs) : v = bs.getD k 0 := by
  induction bs generalizing r k with
  | nil => exact absurd hk (Nat.not_lt_zero k)
  | cons b t ih =>
    cases k with
    | zero => exact crcUpd_right_injective r (crcFold_injective t h)
    | succ k => exact ih (Nat.lt_of_succ_lt_succ hk) h

end Sys2Proof.Machine
end

section
/-! # The working form computes the definition (R100, R101)

The definitional register is the working register in reverse (R103): a simulation, step by step. -/

namespace Sys2Proof.Machine

/-! ### The reversals are `BitVec.reverse` (R9) -/

theorem revNat_lt (n v : Nat) : revNat n v < 2 ^ n := by
  induction n generalizing v with
  | zero => exact Nat.one_pos
  | succ n ih =>
    have hbit : v % 2 * 2 ^ n ≤ 1 * 2 ^ n := Nat.mul_le_mul_right _ (by omega)
    have := ih (v / 2)
    rw [revNat, Nat.pow_succ]
    omega

theorem testBit_revNat {n i : Nat} (v : Nat) (hi : i < n) : (revNat n v).testBit i = v.testBit (n - 1 - i) := by
  induction n generalizing v i with
  | zero => exact absurd hi (Nat.not_lt_zero i)
  | succ n ih =>
    rw [revNat, Nat.mul_comm, Nat.testBit_two_pow_mul_add _ (revNat_lt n _)]
    split
    next hlt =>
      rw [ih _ hlt, Nat.testBit_div_two]
      congr 1
      omega
    next hge =>
      obtain rfl : i = n := by omega
      simp

theorem ofNat_revNat {w : Nat} (v : BitVec w) : BitVec.ofNat w (revNat w v.toNat) = v.reverse := by
  apply BitVec.eq_of_getLsbD_eq
  intro i hi
  rw [BitVec.getLsbD_ofNat, testBit_revNat _ hi, BitVec.testBit_toNat, BitVec.getLsbD_reverse,
    BitVec.getMsbD_eq_getLsbD]

theorem rev8_eq (v : U8) : rev8 v = v.reverse := ofNat_revNat v

theorem rev16_eq (v : U16) : rev16 v = v.reverse := ofNat_revNat v

theorem rev16_xor (r s : U16) : rev16 (r ^^^ s) = rev16 r ^^^ rev16 s := by
  rw [rev16_eq, rev16_eq, rev16_eq]
  ext i hi
  simp only [BitVec.getElem_xor, BitVec.getElem_reverse, BitVec.getMsbD_xor]

theorem rev16_shiftLeft (r : U16) (n : Nat) : rev16 (r <<< n) = rev16 r >>> n := by
  rw [rev16_eq, rev16_eq]
  ext i hi
  simp only [BitVec.getElem_ushiftRight, BitVec.getElem_reverse, BitVec.getLsbD_reverse, BitVec.getMsbD_shiftLeft,
    Nat.add_comm]

/-- A byte entered at the top of the definitional register is the byte, reversed, at the low end. -/
theorem rev16_rev8_high (b : U8) : rev16 ((rev8 b).setWidth 16 <<< 8) = b.setWidth 16 := by
  rw [rev16_eq, rev8_eq]
  ext i hi
  simp only [BitVec.getElem_reverse, BitVec.getMsbD_shiftLeft, BitVec.getMsbD_setWidth, BitVec.getMsbD_reverse,
    BitVec.getElem_setWidth]
  simp

/-! ### The simulation -/

theorem rev16_crcDefShift (r : U16) : rev16 (crcDefShift r) = crcShift (rev16 r) := by
  have hout : (rev16 r).getLsbD 0 = r.getLsbD 15 := by
    rw [rev16_eq, BitVec.getLsbD_reverse, BitVec.getMsbD_eq_getLsbD]
    rfl
  have hpoly : rev16 0x8005#16 = 0xA001#16 := by decide
  unfold crcDefShift crcShift
  rw [hout]
  split
  next => rw [rev16_xor, rev16_shiftLeft, hpoly]
  next => exact rev16_shiftLeft r 1

theorem rev16_crcDefShifts (n : Nat) (r : U16) : rev16 (crcDefShifts n r) = crcShifts n (rev16 r) := by
  induction n generalizing r with
  | zero => rfl
  | succ n ih => rw [crcDefShifts, crcShifts, ih, rev16_crcDefShift]

theorem rev16_crcDefLoop (r : U16) (bs : Bytes) : rev16 (crcDefLoop r bs) = crcFold (rev16 r) bs := by
  induction bs generalizing r with
  | nil => rfl
  | cons b t ih => rw [crcDefLoop, crcFold, ih, rev16_crcDefShifts, rev16_xor, rev16_rev8_high, crcUpd]

/-- The two forms agree; the initial register is its own reverse (R103). -/
theorem crc16Def_eq (bs : Bytes) : crc16Def bs = crc16 bs := by
  have hinit : rev16 0xFFFF = 0xFFFF := by decide
  rw [crc16Def, rev16_crcDefLoop, hinit, crc16]

/-- Settles O14: the operations compute the working form, which is the definition. -/
theorem crcUnitComputesTheDefinedChecksum : Obligations.CrcUnitComputesTheDefinedChecksum := by
  intro bs s
  rw [crc16Ops, execAll_cons (crcInitSetsTheRegister s), execAll_crcUpd, crc16Def_eq]
  rfl

end Sys2Proof.Machine
end

section
/-! # What the checksum catches (R105)

The bytes of a well-formed frame have checksum 0, and bytes that differ from them in one place do not. -/

namespace Sys2Proof.Machine

/-! ### The residue (R105 (c)) -/

/-- A byte equal to the register's low byte cancels it. -/
theorem crcUpd_low_byte (r : U16) : crcUpd r (r.setWidth 8) = r >>> 8 := by
  have hcancel : (r ^^^ (r.setWidth 8).setWidth 16).setWidth 8 = 0#8 := by
    rw [BitVec.setWidth_xor, BitVec.setWidth_setWidth_of_le _ (by decide), BitVec.setWidth_eq, BitVec.xor_self]
  have hzero : crcUpd 0#16 0#8 = 0#16 := by decide
  rw [crcUpd_eq_table, hcancel, hzero, BitVec.xor_zero]

/-- The bytes of the register, low byte first, cancel it. -/
theorem crcFold_le16_self (r : U16) : crcFold r (le16 r) = 0#16 := by
  have hlow : r.extractLsb' 0 8 = r.setWidth 8 := by ext i hi; simp
  have hhigh : r.extractLsb' 8 8 = (r >>> 8).setWidth 8 := by ext i hi; simp
  have hnone : (r >>> 8) >>> 8 = 0#16 := by bv_omega
  rw [le16_eq, crcFold, crcFold, crcFold, hlow, crcUpd_low_byte, hhigh, crcUpd_low_byte, hnone]

theorem crc16_append_checksum (s : Bytes) : crc16 (s ++ le16 (crc16 s)) = 0 := by
  rw [crc16, crcFold_append]
  exact crcFold_le16_self _

/-- Settles O17: the two checksum bytes cancel the register that holds the checksum. -/
theorem checksumResidueIsZero : Obligations.ChecksumResidueIsZero := fun s => by
  rw [← le16_eq]
  exact crc16_append_checksum s

/-! ### A flipped bit (R105 (b)) -/

/-- The bytes of a well-formed frame have checksum 0. -/
theorem crc16_of_wellFormedFrame {h p c : Bytes} (hc : c.length = 2)
    (hw : wellFormedFrame (headerRec h) p c = true) : crc16 (h ++ p ++ c) = 0 := by
  obtain ⟨-, hsum⟩ : _ ∧ field16 c 0 = crc16 ((headerRec h).raw ++ p) := by
    simpa only [wellFormedFrame, Bool.and_eq_true, beq_iff_eq] using hw
  have hraw : (headerRec h).raw = h := rfl
  have hbytes : c = le16 (crc16 (h ++ p)) := by
    rw [← hraw, ← hsum, le16_field16 hc.ge, slice, List.drop_zero, List.take_of_length_le hc.le]
  rw [hbytes]
  exact crc16_append_checksum _

/-- A flipped bit changes the checksum of any bytes. -/
theorem crc16_flip_ne {bs : Bytes} {k j : Nat} (hk : k < bs.length) (hj : j < 8) :
    crc16 (bs.set k (bs.getD k 0 ^^^ (1#8 <<< j))) ≠ crc16 bs := by
  intro h
  have hsame : bs.getD k 0 ^^^ (1#8 <<< j) = bs.getD k 0 := eq_getD_of_crcFold_set hk h
  have hnone : 1#8 <<< j = 0#8 := by simpa using hsame
  have hbit : (1#8 <<< j).getLsbD j = true := by simp [hj]
  rw [hnone, BitVec.getLsbD_zero] at hbit
  exact Bool.false_ne_true hbit

/-- Settles O18: were the flipped frame well-formed, its bytes too would have checksum 0. -/
theorem aFlippedBitIsAlwaysCaught : Obligations.AFlippedBitIsAlwaysCaught := by
  intro h p c k j hh hc hw hk hj f
  have hlen : f.length = 22 + p.length := by simp [f, hh, hc]; omega
  have hparts : slice f 0 20 ++ slice f 20 (20 + p.length) ++ slice f (20 + p.length) (22 + p.length) = f := by
    rw [slice_append_slice f (by omega) (by omega), slice_append_slice f (by omega) (by omega), slice, List.drop_zero,
      List.take_of_length_le (by omega)]
  have htrailer : (slice f (20 + p.length) (22 + p.length)).length = 2 := by rw [slice_length hlen.ge]; omega
  have hbit : k < (h ++ p ++ c).length := by simpa [Nat.add_assoc] using hk
  refine Bool.eq_false_iff.2 fun hwf => crc16_flip_ne hbit hj ?_
  calc crc16 f = 0 := by rw [← hparts]; exact crc16_of_wellFormedFrame htrailer hwf
    _ = crc16 (h ++ p ++ c) := (crc16_of_wellFormedFrame hc hw).symm

end Sys2Proof.Machine
end

section
/-! # The frame encoder (41_frame_tx.md)

The TX unit's two operations, each by the length of its payload, and the frame they emit fed back to an empty RX
unit: header, payload and trailer arrive in turn, and the verdict on an encoded frame is `Frame`. -/

namespace Sys2Proof.Machine

/-! ### A payload too long (R120) -/

/-- `TX.ENC` refuses a payload too long with one event (R120, R201). -/
theorem exec_txEnc_of_lt (seq src dst : U32) (fn : U16) {p : Bytes} (s : State) (hp : payloadMax < p.length) :
    exec (.txEnc seq src dst fn p) s = .next (emit (.txEvt (.payloadTooLong p.length)) s) :=
  congrArg Host.Outcome.next ((if_pos hp).trans (raiseError_tx ..))

/-- `TX.REQ` refuses a payload too long with one event and consumes no sequence number (R120, R201). -/
theorem exec_txReq_of_lt (dst : U32) (fn : U16) {p : Bytes} (s : State) (hp : payloadMax < p.length) :
    exec (.txReq dst fn p) s = .next (emit (.txEvt (.payloadTooLong p.length)) s) :=
  congrArg Host.Outcome.next ((if_pos hp).trans (raiseError_tx ..))

/-- Settles O21: the refusing branch of each operation. -/
theorem txRefusesAPayloadTooLong : Obligations.TxRefusesAPayloadTooLong :=
  fun seq src dst fn _ s hp => ⟨exec_txEnc_of_lt seq src dst fn s hp, exec_txReq_of_lt dst fn s hp⟩

/-! ### The emitted frame (R116 to R119) -/

/-- A payload within the bound is sent under the next sequence number with `CTRL_ID` as source (R119). -/
theorem exec_txReq_of_le (dst : U32) (fn : U16) {p : Bytes} (s : State) (hp : p.length ≤ payloadMax) :
    exec (.txReq dst fn p) s =
      .next (emit (.txOut (encodeFrame (s.seq + 1) s.ctrlId dst fn p)) (setSeq (s.seq + 1) s)) :=
  congrArg Host.Outcome.next (if_neg (Nat.not_lt.2 hp))

/-- Settles O19, by the length of the payload; the bytes spelled out are those of `encode_frame`. -/
theorem txEncEmitsTheFrame : Obligations.TxEncEmitsTheFrame := by
  intro seq src dst fn p s
  simp only [← le16_eq, ← le32_eq]
  by_cases hp : 65535 < p.length
  · rw [if_pos hp]
    exact exec_txEnc_of_lt seq src dst fn s hp
  · rw [if_neg hp]
    exact exec_txEnc_of_le seq src dst fn s (Nat.not_lt.1 hp)

/-- Incrementing a 32-bit counter is incrementing modulo 2^32 (R119). -/
theorem add_one_eq_ofNat (v : U32) : v + 1 = BitVec.ofNat 32 ((v.toNat + 1) % 2 ^ 32) := by
  apply BitVec.eq_of_toNat_eq
  simp

/-- Settles O20, by the length of the payload. -/
theorem txReqSendsTheNextSequenceNumber : Obligations.TxReqSendsTheNextSequenceNumber := by
  intro dst fn p s
  simp only [← le16_eq, ← le32_eq, ← add_one_eq_ofNat]
  by_cases hp : 65535 < p.length
  · rw [if_pos hp]
    exact exec_txReq_of_lt dst fn s hp
  · rw [if_neg hp]
    exact exec_txReq_of_le dst fn s (Nat.not_lt.1 hp)

/-! ### A frame arrives at an empty RX unit (R135 to R137) -/

/-- Bytes that arrive within the payload are appended to it and folded into `RX_CRC`; the phase changes only where
they complete the payload. -/
theorem rxTakeAll_within_payload (bs : Bytes) (s : State) (hp : s.rxPhase = .pay)
    (hlt : s.rxPay.length < s.rxPlen.toNat) (hle : (s.rxPay ++ bs).length ≤ s.rxPlen.toNat) :
    rxTakeAll bs s = { s with
      rxPay := s.rxPay ++ bs
      rxCrc := crcFold s.rxCrc bs
      rxPhase := if (s.rxPay ++ bs).length = s.rxPlen.toNat then .csum else .pay } := by
  induction bs generalizing s with
  | nil => rw [List.append_nil, if_neg hlt.ne, ← hp]; rfl
  | cons b t ih =>
    have happ : s.rxPay ++ b :: t = (s.rxPay ++ [b]) ++ t := by simp
    rw [rxTakeAll, rxTake_pay hp]
    by_cases hlast : (s.rxPay ++ [b]).length = s.rxPlen.toNat
    · have ht : t = [] := by
        rw [happ, List.length_append, hlast] at hle
        exact List.eq_nil_of_length_eq_zero (by omega)
      subst ht
      simp only [rxTakeAll, rxPutPayload, crcFold, hlast, if_true]
    · have hphase : (rxPutPayload b s).rxPhase = .pay := by
        simp only [rxPutPayload_rxPhase, hlast, if_false, hp]
      have hlt' : (s.rxPay ++ [b]).length < s.rxPlen.toNat := by
        rw [List.length_append, List.length_singleton] at hlast ⊢
        omega
      rw [happ] at hle ⊢
      exact (ih (rxPutPayload b s) hphase hlt' hle).trans rfl

/-- A header and as many payload bytes as it announces leave an empty RX unit waiting for the checksum. -/
theorem rxTakeAll_header_payload {h p : Bytes} {s : State} (hs : s.rxEmpty) (hh : h.length = headerLen)
    (hp : p.length = (field16 h 18).toNat) :
    rxTakeAll (h ++ p) s =
      { s with rxHdr := h, rxPay := p, rxCrc := crc16 (h ++ p), rxPhase := .csum } := by
  obtain ⟨-, -, hpay, -, -⟩ := id hs
  have hcrc : crcFold (crc16 h) p = crc16 (h ++ p) := (crcFold_append ..).symm
  rw [rxTakeAll_append, rxTakeAll_header hs hh, phaseAfterHeader]
  by_cases h0 : field16 h 18 = 0
  · have hnil : p = [] := List.eq_nil_of_length_eq_zero (hp.trans (congrArg BitVec.toNat h0))
    rw [if_pos h0, hnil, rxTakeAll, List.append_nil, ← hpay]
  · have hpos : 0 < (field16 h 18).toNat := Nat.pos_of_ne_zero fun hz => h0 (BitVec.eq_of_toNat_eq hz)
    rw [if_neg h0, rxTakeAll_within_payload p _ rfl (by rw [hpay]; exact hpos) (by rw [hpay]; exact hp.le)]
    simp only [State.rxPlen, hpay, List.nil_append, hcrc, hp, if_true]

/-- Emptying an empty RX unit changes nothing. -/
theorem rxClear_of_rxEmpty {s : State} (hs : s.rxEmpty) : rxClear s = s := by
  cases s
  obtain ⟨rfl, rfl, rfl, rfl, rfl⟩ := hs
  rfl

/-- A whole frame at an empty RX unit: the verdict of `decode_frame` goes out, and the unit is empty again. -/
theorem rxTakeAll_frame {h p : Bytes} {s : State} (c : U16) (hs : s.rxEmpty) (hh : h.length = headerLen)
    (hp : p.length = (field16 h 18).toNat) :
    rxTakeAll (h ++ p ++ le16 c) s = emit (.rxEvt (decodeFrame (headerRec h) p (le16 c))) s := by
  obtain ⟨-, -, -, h0, -⟩ := id hs
  rw [rxTakeAll_append, rxTakeAll_header_payload hs hh hp, le16_eq]
  refine (rxTakeAll_trailer ?_ ?_).trans ?_
  · rfl
  · exact h0
  · exact rxClear_of_rxEmpty (s := emit _ s) hs

/-! ### An encoded frame is received back (R121) -/

/-- Unpacking an encoded header gives its fields (R85, R131). -/
theorem headerRec_encHeader (seq src dst : U32) (fn len : U16) :
    headerRec (encHeader seq src dst fn len) =
      ⟨magicBytes, ⟨seq, src, dst, fn, len⟩, encHeader seq src dst fn len⟩ := by
  rw [← List.append_nil (encHeader seq src dst fn len), headerRec, headerFields, slice_encHeader_magic,
    field32_encHeader_seq, field32_encHeader_src, field32_encHeader_dst, field16_encHeader_fn,
    field16_encHeader_len]

/-- The verdict on an encoded header with its checksum is `Frame` (R132, R133). -/
theorem decodeFrame_encHeader (seq src dst : U32) (fn len : U16) (p : Bytes) :
    decodeFrame (headerRec (encHeader seq src dst fn len)) p (le16 (crc16 (encHeader seq src dst fn len ++ p))) =
      .frame ⟨seq, src, dst, fn, len⟩ p (crc16 (encHeader seq src dst fn len ++ p)) := by
  rw [headerRec_encHeader, decodeFrame_le16, if_pos rfl, if_pos rfl]

/-- The bytes of a frame in front of its checksum are its header and its payload. -/
theorem take_encodeFrame (seq src dst : U32) (fn : U16) (p : Bytes) :
    (encodeFrame seq src dst fn p).take (20 + p.length) = encHeader seq src dst fn (BitVec.ofNat 16 p.length) ++ p :=
  List.take_left' (by rw [List.length_append, encHeader_length])

/-- Settles O23: the encoded header announces the payload's length, so the frame arrives whole
(`rxTakeAll_frame`), and its verdict is `Frame` (`decodeFrame_encHeader`). -/
theorem encodedFramesAreReceivedBack : Obligations.EncodedFramesAreReceivedBack := by
  intro seq src dst fn p s hp hs
  have hplen : p.length = (field16 (encHeader seq src dst fn (BitVec.ofNat 16 p.length)) 18).toNat := by
    rw [← List.append_nil (encHeader ..), field16_encHeader_len, BitVec.toNat_ofNat,
      Nat.mod_eq_of_lt (Nat.lt_succ_of_le hp)]
  refine ⟨encodeFrame seq src dst fn p, exec_txEnc_of_le seq src dst fn s hp, ?_⟩
  rw [execAll_rxBytesOps, take_encodeFrame, encodeFrame, rxTakeAll_frame _ hs (encHeader_length ..) hplen,
    decodeFrame_encHeader]
  rfl

end Sys2Proof.Machine
end

section
/-! # The frame decoder (42_frame_rx.md)

The RX unit's two operations, and the byte-serial unit against the function `rx_burst` (R140). The bytes of a burst are
whole frames and then a piece too short for another one: `burst_induction` says so once. `rx_burst` and the unit each
have one equation for a whole frame and one for either piece, and that they agree is read off these. -/

namespace Sys2Proof.Machine

/-! ### `RX.BYTE` and `RX.EOB` (R135 to R138) -/

/-- The phase after a complete header, by the number its length field holds (R136). -/
theorem phaseAfterHeader_eq (h : Bytes) : phaseAfterHeader h = if leAt h 18 2 = 0 then .csum else .pay := by
  have hz : field16 h 18 = 0 ↔ leAt h 18 2 = 0 := by
    rw [← field16_toNat]
    exact BitVec.toNat_inj.symm
  simp only [phaseAfterHeader, hz]

/-- The checksum two bytes stand for, low byte first (R53, R144). -/
theorem field16_pair (c0 c1 : U8) : field16 [c0, c1] 0 = BitVec.ofNat 16 (c0.toNat + 256 * c1.toNat) := by
  simp [field16, leAt, slice, leNat]

/-- Settles O24, phase by phase. -/
theorem rxByteFollowsThePhase : Obligations.RxByteFollowsThePhase := by
  intro b s
  refine congrArg Host.Outcome.next (a₁ := rxTake b s) ?_
  cases hp : s.rxPhase with
  | hdr =>
    rw [rxTake_hdr hp, rxPutHeader, hp, List.length_append, List.length_singleton, phaseAfterHeader_eq]
    rfl
  | pay =>
    rw [rxTake_pay hp, rxPutPayload, hp, List.length_append, List.length_singleton, State.rxPlen, field16_toNat]
  | csum =>
    cases h0 : s.rxCs0 with
    | none => rw [rxTake_low hp h0, rxHoldLow, hp]
    | some c0 =>
      rw [rxTake_high hp h0, completeFrame, raiseError_rx]
      simp only [decodeFrame, field16_pair, magicOk, beq_iff_eq]
      rfl

/-- `RX.EOB` raises its event and empties the unit (R138, R202). -/
theorem exec_rxEob (s : State) : exec .rxEob s = .next (rxClear (emit (.rxEvt (eobEvent s)) s)) := rfl

theorem eobEvent_of_hdr {s : State} (hp : s.rxPhase = .hdr) : eobEvent s = .malformedHeader s.rxHdr.length := by
  simp only [eobEvent, hp]

theorem eobEvent_of_ne_hdr {s : State} (hp : s.rxPhase ≠ .hdr) :
    eobEvent s = .truncatedFrame s.rxMagic (headerFields s.rxHdr)
      (s.rxPay.length + if s.rxCs0 = none then 0 else 1) (s.rxPlen.toNat + 2) := by
  cases hp' : s.rxPhase with
  | hdr => exact absurd hp' hp
  | pay | csum => simp only [eobEvent, hp']

/-- With no checksum byte held the event counts the payload bytes (R138). -/
theorem eobEvent_of_cs0_none {s : State} (hp : s.rxPhase ≠ .hdr) (h0 : s.rxCs0 = none) :
    eobEvent s =
      .truncatedFrame s.rxMagic (headerFields s.rxHdr) s.rxPay.length (s.rxPlen.toNat + 2) := by
  rw [eobEvent_of_ne_hdr hp, if_pos h0]
  rfl

/-- A checksum byte held is counted too (R138). -/
theorem eobEvent_of_cs0_some {s : State} {c0 : U8} (hp : s.rxPhase ≠ .hdr) (h0 : s.rxCs0 = some c0) :
    eobEvent s =
      .truncatedFrame s.rxMagic (headerFields s.rxHdr) (s.rxPay.length + 1) (s.rxPlen.toNat + 2) := by
  rw [eobEvent_of_ne_hdr hp, h0]
  rfl

/-- Settles O25, by whether the header is complete. -/
theorem rxEobAbandonsTheFrameInFlight : Obligations.RxEobAbandonsTheFrameInFlight := by
  intro s
  rw [exec_rxEob]
  by_cases hp : s.rxPhase = .hdr
  · rw [eobEvent_of_hdr hp, if_pos hp]
    rfl
  · rw [eobEvent_of_ne_hdr hp, if_neg hp]
    rfl

/-! ### The words of a frame (R71, R92, R135) -/

/-- Settles O31: the two families of frame words, each `RX.BYTES` of its encoding (`exec_headerRow`,
`exec_frameTrailer`); an instruction of another family has another format. -/
theorem frameWordsAreTheirBytes : Obligations.FrameWordsAreTheirBytes := by
  intro p i s hi
  rw [execAll_rxBytesOps]
  induction i using Instr.byFormat with
  | header f seq src dst plen => rw [exec_headerRow, encode_headerRow]
  | trailer c => rw [exec_frameTrailer, encode_frameTrailer]
  | chunk d id size => simp at hi
  | op o => simp at hi

/-! ### The pieces of a burst (R134) -/

/-- What a byte sequence is to the frame decoder: a piece of a header, a header with a piece of what it announces, or a
whole frame in front of other bytes. -/
theorem burst_cases (bs : Bytes) :
    bs.length < headerLen ∨
    (∃ h t : Bytes, bs = h ++ t ∧ h.length = headerLen ∧ t.length < (field16 h 18).toNat + 2) ∨
    (∃ h p c rest : Bytes, bs = h ++ p ++ c ++ rest ∧ h.length = headerLen ∧ p.length = (field16 h 18).toNat ∧
      c.length = csumLen) := by
  by_cases hl : bs.length < headerLen
  · exact .inl hl
  obtain ⟨h, t, rfl, hh⟩ : ∃ h t, bs = h ++ t ∧ h.length = headerLen :=
    ⟨_, _, (List.take_append_drop headerLen bs).symm, List.length_take_of_le (Nat.not_lt.1 hl)⟩
  by_cases ht : t.length < (field16 h 18).toNat + 2
  · exact .inr (.inl ⟨h, t, rfl, hh, ht⟩)
  obtain ⟨p, u, rfl, hp⟩ : ∃ p u, t = p ++ u ∧ p.length = (field16 h 18).toNat :=
    ⟨_, _, (List.take_append_drop _ t).symm, List.length_take_of_le (by omega)⟩
  have hu : csumLen ≤ u.length := by
    rw [List.length_append] at ht
    unfold csumLen
    omega
  refine .inr (.inr ⟨h, p, u.take csumLen, u.drop csumLen, ?_, hh, hp, List.length_take_of_le hu⟩)
  rw [List.append_assoc (h ++ p), List.take_append_drop, List.append_assoc]

/-- What holds of a piece of a frame, and of a whole frame in front of bytes that it holds of, holds of every burst. -/
theorem burst_induction {P : Bytes → Prop}
    (short : ∀ h : Bytes, h.length < headerLen → P h)
    (cut : ∀ h t : Bytes, h.length = headerLen → t.length < (field16 h 18).toNat + 2 → P (h ++ t))
    (whole : ∀ h p c rest : Bytes, h.length = headerLen → p.length = (field16 h 18).toNat → c.length = csumLen →
      P rest → P (h ++ p ++ c ++ rest)) (bs : Bytes) : P bs := by
  obtain hl | ⟨h, t, hbs, hh, ht⟩ | ⟨h, p, c, rest, hbs, hh, hp, hc⟩ := burst_cases bs
  · exact short bs hl
  · exact hbs ▸ cut h t hh ht
  · exact hbs ▸ whole h p c rest hh hp hc (burst_induction short cut whole rest)
termination_by bs.length
decreasing_by
  rw [hbs, List.length_append, List.length_append, hc, csumLen]
  omega

/-! ### `rx_burst`, piece by piece (R134) -/

theorem decodeHeader_of_length {h : Bytes} (hh : h.length = headerLen) : decodeHeader h = .ok (headerRec h) :=
  if_neg (Nat.not_lt.2 hh.ge)

/-- A piece of a header ends the burst with MalformedHeader. -/
theorem rxBurstUpTo_short (n : Nat) {h : Bytes} (hl : h.length < headerLen) :
    rxBurstUpTo (n + 1) h = [.malformedHeader h.length] := by
  rw [rxBurstUpTo, List.take_of_length_le hl.le, decodeHeader, if_pos hl]

/-- A header with a piece of what it announces ends the burst with TruncatedFrame. -/
theorem rxBurstUpTo_cut (n : Nat) {h t : Bytes} (hh : h.length = headerLen)
    (ht : t.length < (field16 h 18).toNat + 2) :
    rxBurstUpTo (n + 1) (h ++ t) =
      [.truncatedFrame (slice h 0 4) (headerFields h) t.length ((field16 h 18).toNat + 2)] := by
  have hlen : (h ++ t).length = 20 + t.length := by rw [List.length_append, hh]; rfl
  have hcut : (h ++ t).length < 22 + (field16 h 18).toNat := by omega
  have hgot : (h ++ t).length - 20 = t.length := by omega
  rw [rxBurstUpTo, List.take_left' hh, decodeHeader_of_length hh]
  exact (if_pos hcut).trans (by rw [hgot]; rfl)

theorem slice_middle (a b c : Bytes) : slice (a ++ b ++ c) a.length (a.length + b.length) = b := by
  simp [slice]

/-- A whole frame gives its verdict, and the burst goes on behind it. -/
theorem rxBurstUpTo_whole (n : Nat) {h p c : Bytes} (rest : Bytes) (hh : h.length = headerLen)
    (hp : p.length = (field16 h 18).toNat) (hc : c.length = csumLen) :
    rxBurstUpTo (n + 1) (h ++ p ++ c ++ rest) = decodeFrame (headerRec h) p c :: rxBurstUpTo n rest := by
  have hplen : (headerRec h).fields.payloadLength.toNat = p.length := hp.symm
  have h20 : (h ++ p).length = 20 + p.length := by rw [List.length_append, hh]; rfl
  have h22 : (h ++ p ++ c).length = 22 + p.length := by rw [List.length_append, h20, hc, csumLen]; omega
  have hhead : (h ++ p ++ c ++ rest).take headerLen = h := by
    rw [List.append_assoc, List.append_assoc]
    exact List.take_left' hh
  have hpay : slice (h ++ p ++ c ++ rest) 20 (20 + p.length) = p := by
    rw [List.append_assoc, ← show h.length = 20 from hh]
    exact slice_middle h p (c ++ rest)
  have hsum : slice (h ++ p ++ c ++ rest) (20 + p.length) (22 + p.length) = c := by
    rw [← h20, ← h22, List.length_append (as := h ++ p)]
    exact slice_middle (h ++ p) c rest
  have hlen : ¬ (h ++ p ++ c ++ rest).length < 22 + p.length := by
    rw [List.length_append, h22]
    omega
  rw [rxBurstUpTo, hhead, decodeHeader_of_length hh]
  simp only [hplen, if_neg hlen, hpay, hsum, List.drop_left' h22]

/-- The bound on the number of frames is never met: a frame takes at least one byte. -/
theorem rxBurstUpTo_of_lt {n : Nat} {bs : Bytes} (hn : bs.length < n) : rxBurstUpTo n bs = rxBurst bs := by
  induction bs using burst_induction generalizing n with
  | short h hl =>
    match n, hn with
    | n + 1, _ => rw [rxBurstUpTo_short n hl, rxBurst, rxBurstUpTo_short _ hl]
  | cut h t hh ht =>
    match n, hn with
    | n + 1, _ => rw [rxBurstUpTo_cut n hh ht, rxBurst, rxBurstUpTo_cut _ hh ht]
  | whole h p c rest hh hp hc ih =>
    have hrest : rest.length < (h ++ p ++ c ++ rest).length := by
      simp only [List.length_append, hc, csumLen]
      omega
    match n, hn with
    | n + 1, hn =>
      rw [rxBurstUpTo_whole n rest hh hp hc, rxBurst, rxBurstUpTo_whole _ rest hh hp hc, ih (by omega), ih hrest]

theorem rxBurst_short {h : Bytes} (hl : h.length < headerLen) : rxBurst h = [.malformedHeader h.length] :=
  rxBurstUpTo_short _ hl

theorem rxBurst_cut {h t : Bytes} (hh : h.length = headerLen) (ht : t.length < (field16 h 18).toNat + 2) :
    rxBurst (h ++ t) = [.truncatedFrame (slice h 0 4) (headerFields h) t.length ((field16 h 18).toNat + 2)] :=
  rxBurstUpTo_cut _ hh ht

theorem rxBurst_whole {h p c : Bytes} (rest : Bytes) (hh : h.length = headerLen)
    (hp : p.length = (field16 h 18).toNat) (hc : c.length = csumLen) :
    rxBurst (h ++ p ++ c ++ rest) = decodeFrame (headerRec h) p c :: rxBurst rest := by
  rw [rxBurst, rxBurstUpTo_whole _ rest hh hp hc, rxBurstUpTo_of_lt]
  simp only [List.length_append, hc, csumLen]
  omega

/-- Settles O28: each whole frame gives its verdict, and no bytes are left for another header. -/
theorem aBurstOfWholeFrames : Obligations.ABurstOfWholeFrames := by
  intro fs hfs
  induction fs with
  | nil => rfl
  | cons f fs ih =>
    obtain ⟨hh, hp, hc⟩ := hfs f List.mem_cons_self
    rw [← field16_toNat] at hp
    rw [List.flatMap_cons, rxBurst_whole _ hh hp hc, ih fun g hg => hfs g (List.mem_cons_of_mem f hg)]
    rfl

/-! ### The RX unit at the end of a burst (R138, R140) -/

/-- `RX.BYTE` for each byte of a burst, then `RX.EOB`. -/
theorem execAll_burst (bs : Bytes) (s : State) :
    execAll (rxBytesOps bs ++ [.rxEob]) s =
      .next (rxClear (emit (.rxEvt (eobEvent (rxTakeAll bs s))) (rxTakeAll bs s))) :=
  execAll_append (execAll_rxBytesOps bs s)

/-- A piece of a header at an empty RX unit waits there for the rest. -/
theorem rxTakeAll_short {h : Bytes} {s : State} (hs : s.rxEmpty) (hl : h.length < headerLen) :
    rxTakeAll h s = { s with rxHdr := h, rxCrc := crc16 h } := by
  obtain ⟨hp, hh, -, -, hc⟩ := hs
  rw [rxTakeAll_within_header h s hp (by rw [hh]; decide) (by rw [hh]; exact hl.le), hh, hc, List.nil_append,
    if_neg hl.ne, ← hp, crc16]

/-- `RX.EOB` on a piece of a header, and the unit it empties. -/
theorem eob_after_short {h : Bytes} {s : State} (hs : s.rxEmpty) (hl : h.length < headerLen) :
    eobEvent (rxTakeAll h s) = .malformedHeader h.length ∧ rxClear (rxTakeAll h s) = rxClear s := by
  rw [rxTakeAll_short hs hl]
  exact ⟨eobEvent_of_hdr hs.1, rfl⟩

/-- A header and a piece of the payload it announces wait for the rest of the payload. -/
theorem rxTakeAll_cut_payload {h t : Bytes} {s : State} (hs : s.rxEmpty) (hh : h.length = headerLen)
    (ht : t.length < (field16 h 18).toNat) :
    rxTakeAll (h ++ t) s = { s with rxHdr := h, rxPay := t, rxCrc := crc16 (h ++ t), rxPhase := .pay } := by
  obtain ⟨-, -, hpay, -, -⟩ := id hs
  have hcrc : crcFold (crc16 h) t = crc16 (h ++ t) := (crcFold_append ..).symm
  have h0 : field16 h 18 ≠ 0 := fun h0 => by simp [h0] at ht
  rw [rxTakeAll_append, rxTakeAll_header hs hh, phaseAfterHeader, if_neg h0,
    rxTakeAll_within_payload t _ rfl (by rw [hpay]; exact Nat.zero_lt_of_lt ht) (by rw [hpay]; exact ht.le)]
  simp only [State.rxPlen, hpay, List.nil_append, hcrc, if_neg ht.ne]

/-- `RX.EOB` on a frame that lacks some of the bytes announced, and the unit it empties: the event counts the bytes
that came after the header, in the payload or, with the payload complete, up to the first checksum byte. -/
theorem eob_after_cut {h t : Bytes} {s : State} (hs : s.rxEmpty) (hh : h.length = headerLen)
    (ht : t.length < (field16 h 18).toNat + 2) :
    eobEvent (rxTakeAll (h ++ t) s) =
        .truncatedFrame (slice h 0 4) (headerFields h) t.length ((field16 h 18).toNat + 2) ∧
      rxClear (rxTakeAll (h ++ t) s) = rxClear s := by
  obtain ⟨-, -, -, h0, -⟩ := id hs
  by_cases hpay : t.length < (field16 h 18).toNat
  · rw [rxTakeAll_cut_payload hs hh hpay]
    exact ⟨eobEvent_of_cs0_none nofun h0, rfl⟩
  obtain ⟨p, u, rfl, hp⟩ : ∃ p u, t = p ++ u ∧ p.length = (field16 h 18).toNat :=
    ⟨_, _, (List.take_append_drop _ t).symm, List.length_take_of_le (Nat.not_lt.1 hpay)⟩
  have hu : u.length < 2 := by
    rw [List.length_append] at ht
    omega
  rw [← List.append_assoc, rxTakeAll_append, rxTakeAll_header_payload hs hh hp]
  match u, hu with
  | [], _ =>
    rw [rxTakeAll, List.append_nil]
    exact ⟨eobEvent_of_cs0_none nofun h0, rfl⟩
  | [c0], _ =>
    rw [rxTakeAll, rxTakeAll, rxTake_low, List.length_append]
    · exact ⟨eobEvent_of_cs0_some nofun rfl, rfl⟩
    · rfl
    · exact h0

/-- A burst that ends without completing a frame emits one event and leaves the unit as empty as it was. -/
theorem execAll_burst_of_cut {bs : Bytes} {s : State} {e : RxEvent} (hs : s.rxEmpty)
    (he : eobEvent (rxTakeAll bs s) = e ∧ rxClear (rxTakeAll bs s) = rxClear s) :
    execAll (rxBytesOps bs ++ [.rxEob]) s = .next (emit (.rxEvt e) s) := by
  obtain ⟨rfl, hc⟩ := he
  calc execAll (rxBytesOps bs ++ [.rxEob]) s
      = .next (emit (.rxEvt (eobEvent (rxTakeAll bs s))) (rxClear (rxTakeAll bs s))) := execAll_burst bs s
    _ = .next (emit (.rxEvt (eobEvent (rxTakeAll bs s))) s) := by rw [hc, rxClear_of_rxEmpty hs]

/-- Any header, payload and checksum at an empty RX unit: the verdict goes out, and the unit is empty again. -/
theorem rxTakeAll_whole {h p c : Bytes} {s : State} (hs : s.rxEmpty) (hh : h.length = headerLen)
    (hp : p.length = (field16 h 18).toNat) (hc : c.length = csumLen) :
    rxTakeAll (h ++ p ++ c) s = emit (.rxEvt (decodeFrame (headerRec h) p c)) s := by
  have hle : le16 (field16 c 0) = c := (le16_field16 hc.ge).trans (List.take_of_length_le hc.le)
  have hframe := rxTakeAll_frame (field16 c 0) hs hh hp
  rwa [hle] at hframe

/-- Settles O27, by the pieces of the burst: a whole frame is one verdict on either side and leaves the unit empty for
the bytes after it, and what is left in the end is what `RX.EOB` reports. -/
theorem byteSerialReceptionIsRxBurst : Obligations.ByteSerialReceptionIsRxBurst := by
  intro bs s hs
  induction bs using burst_induction generalizing s with
  | short h hl => rw [rxBurst_short hl]; exact execAll_burst_of_cut hs (eob_after_short hs hl)
  | cut h t hh ht => rw [rxBurst_cut hh ht]; exact execAll_burst_of_cut hs (eob_after_cut hs hh ht)
  | whole h p c rest hh hp hc ih =>
    have hgo := ih (emit (.rxEvt (decodeFrame (headerRec h) p c)) s) hs
    rw [execAll_burst] at hgo ⊢
    rw [rxTakeAll_append, rxTakeAll_whole hs hh hp hc, hgo, rxBurst_whole rest hh hp hc, List.map_cons, emit_trace,
      List.append_assoc]
    rfl

end Sys2Proof.Machine
end

section
/-! # The chunk decoder (43_chunk_tlv.md)

One equation for each of the four things `TLV.STEP` does, and one for each of the four things `decode_chunks` does at an
offset. `ChunksFrom` is the decoder R172 as a relation, without the bound on the number of chunks; that the unit
emits `decode_chunks`, that it ends, and that the sizes add up are inductions over it. -/

namespace Sys2Proof

/-! ### Fields read from the rest of a byte sequence (R85) -/

theorem slice_drop (s : Bytes) (c i j : Nat) : slice (s.drop c) i j = slice s (c + i) (c + j) := by
  rw [slice, slice, List.drop_drop, Nat.add_sub_add_left]

theorem field8_drop (s : Bytes) (c off : Nat) : field8 (s.drop c) off = field8 s (c + off) := by
  simp only [field8, List.getD_eq_getElem?_getD, List.getElem?_drop]

theorem field16_drop (s : Bytes) (c off : Nat) : field16 (s.drop c) off = field16 s (c + off) := by
  rw [field16, field16, leAt, leAt, slice_drop, Nat.add_assoc]

/-- The fields of a chunk header that stands at an offset (R36, R80). -/
theorem chunkFields_at {p rest : Bytes} {c : Nat} {id tag : U8} {size : U16}
    (h : p.drop c = encChunkHeader id tag size ++ rest) :
    field8 p c = id ∧ field8 p (c + 1) = tag ∧ field16 p (c + 2) = size := by
  have hid := field8_drop p c 0
  have htag := field8_drop p c 1
  have hsize := field16_drop p c 2
  rw [h] at hid htag hsize
  exact ⟨hid.symm, htag.symm, hsize.symm.trans (field16_encChunkHeader_size ..)⟩

theorem slice_eq_take_drop (s : Bytes) (i n : Nat) : slice s i (i + n) = (s.drop i).take n := by
  rw [slice, Nat.add_sub_cancel_left]

end Sys2Proof

namespace Sys2Proof.Machine

/-! ### Sizes and elements (R156 to R160) -/

/-- The size rule as R157 states it. -/
theorem sizeOk_iff (d : DType) (n : Nat) :
    sizeOk d n = true ↔ n = 0 ∨ (dtypeKind d = .scalar ∧ n = dtypeWidth d) ∨
      (dtypeKind d = .array ∧ n % dtypeWidth d = 0) := by
  cases hk : dtypeKind d <;> simp [sizeOk, hk]

/-- The two exceptions of R158 are what division by 0 and of 0 gives in any case. -/
theorem elemCount_eq (d : DType) (n : Nat) : elemCount d n = n / dtypeWidth d := by
  unfold elemCount
  split_ifs with h
  · obtain hw | hn := h
    · rw [hw, Nat.div_zero]
    · rw [hn, Nat.zero_div]
  · rfl

/-- A legal size is that of its elements. -/
theorem elemCount_mul_width {d : DType} {n : Nat} (h : sizeOk d n = true) : elemCount d n * dtypeWidth d = n := by
  rw [elemCount_eq]
  apply Nat.div_mul_cancel
  obtain hz | ⟨-, hw⟩ | ⟨-, hm⟩ := (sizeOk_iff d n).1 h
  · exact hz ▸ Nat.dvd_zero _
  · exact hw ▸ Nat.dvd_refl _
  · exact Nat.dvd_of_mod_eq_zero hm

theorem slices_eq_map (w n : Nat) (bs : Bytes) :
    slices w n bs = (List.range n).map fun i => slice bs (i * w) ((i + 1) * w) := by
  induction n generalizing bs with
  | zero => rfl
  | succ n ih =>
    rw [slices_succ, ih, List.range_succ_eq_map, List.map_cons, List.map_map]
    congr 1
    · simp [slice]
    · refine List.map_congr_left fun i _ => ?_
      rw [slice_drop, Function.comp_apply, Nat.succ_eq_add_one, Nat.add_comm w, Nat.add_comm w, ← Nat.succ_mul,
        ← Nat.succ_mul]

theorem flatten_slices (w n : Nat) (bs : Bytes) : (slices w n bs).flatten = bs.take (n * w) := by
  induction n generalizing bs with
  | zero => simp [slices]
  | succ n ih => rw [slices_succ, List.flatten_cons, ih, ← List.take_add, Nat.add_comm, Nat.succ_mul]

theorem length_of_mem_slices {w n : Nat} {bs e : Bytes} (hl : n * w ≤ bs.length) (he : e ∈ slices w n bs) :
    e.length = w := by
  rw [slices_eq_map] at he
  obtain ⟨i, hi, rfl⟩ := List.mem_map.1 he
  have hle : (i + 1) * w ≤ n * w := Nat.mul_le_mul_right w (List.mem_range.1 hi)
  rw [slice_length (hle.trans hl), Nat.succ_mul, Nat.add_sub_cancel_left]

theorem elems_eq_map (d : DType) (raw : Bytes) :
    elems d raw = (List.range (elemCount d raw.length)).map fun i =>
      slice raw (i * dtypeWidth d) ((i + 1) * dtypeWidth d) :=
  slices_eq_map ..

/-- The elements as R160 states them; a width of 0 leaves none. -/
theorem elems_eq (d : DType) (raw : Bytes) :
    elems d raw = if dtypeWidth d = 0 then [] else (List.range (raw.length / dtypeWidth d)).map fun i =>
      slice raw (i * dtypeWidth d) ((i + 1) * dtypeWidth d) := by
  rw [elems_eq_map, elemCount_eq]
  split_ifs with hw
  · rw [hw, Nat.div_zero, List.range_zero, List.map_nil]
  · rfl

/-- Settles O42: the slices of a legal value leave no byte over (`elemCount_mul_width`). -/
theorem elementsAreTheSlices : Obligations.ElementsAreTheSlices := by
  intro d raw h
  have hlen := elemCount_mul_width h
  refine ⟨elems_eq_map d raw, ?_, fun e he => length_of_mem_slices hlen.le he⟩
  rw [elems, flatten_slices, hlen, List.take_length]

/-! ### Readings (R161 to R166) -/

/-- `NONE` alone has no element width (R156). -/
theorem dtypeWidth_eq_zero_iff (d : DType) : dtypeWidth d = 0 ↔ dtypeReading d = .noValue := by
  cases d <;> decide

theorem dtypeWidth_of_pair {d : DType} (h : dtypeReading d = .pair) : dtypeWidth d = 2 := by
  cases d with
  | cardRange => rfl
  | _ => cases h

theorem readElem_of_signed {d : DType} (h : dtypeReading d = .signed) (e : Bytes) :
    readElem d e = .int (sint (8 * dtypeWidth d) (leAt e 0 (dtypeWidth d))) := by
  simp only [readElem, h]

theorem readElem_of_unsigned {d : DType} (h : dtypeReading d = .unsigned) (e : Bytes) :
    readElem d e = .int (leAt e 0 (dtypeWidth d)) := by
  simp only [readElem, h]

/-- Two's complement is the pattern up to a multiple of `2^w` (R161). -/
theorem sint_emod {w v : Nat} (hv : v < 2 ^ w) : sint w v % 2 ^ w = v := by
  have hmod : (v : Int) % 2 ^ w = v := Int.emod_eq_of_lt (by positivity) (by exact_mod_cast hv)
  unfold sint
  split_ifs
  · rw [Int.sub_emod_right, hmod]
  · exact hmod

theorem sint_range {w v : Nat} (hw : 0 < w) (hv : v < 2 ^ w) :
    -(2 ^ (w - 1)) ≤ sint w v ∧ sint w v < 2 ^ (w - 1) := by
  have hpow : (2 : Int) ^ w = 2 * 2 ^ (w - 1) := (mul_pow_sub_one hw.ne' 2).symm
  have hv' : (v : Int) < 2 ^ w := by exact_mod_cast hv
  unfold sint
  split_ifs with h
  · have h' : (2 : Int) ^ (w - 1) ≤ v := by exact_mod_cast h
    omega
  · have h' : (v : Int) < 2 ^ (w - 1) := by exact_mod_cast Nat.lt_of_not_le h
    omega

theorem leAt_lt_two_pow (e : Bytes) (n : Nat) : leAt e 0 n < 2 ^ (8 * n) := by
  rw [Nat.pow_mul]
  exact leAt_lt e 0 n

/-- The bytes of an element written from the integer they stand for (R9). -/
theorem leBytes_leAt_zero {e : Bytes} {w : Nat} (h : e.length = w) : leBytes w (leAt e 0 w) = e := by
  have hb := leBytes_leAt (s := e) (off := 0) (n := w) (by omega)
  rwa [slice_eq_take_drop, List.drop_zero, List.take_of_length_le h.le] at hb

/-- An integer that is an element's pattern modulo `2^(8W)` is written as that element (R178). -/
theorem encElem_int {d : DType} {e : Bytes} {v : Int} (he : e.length = dtypeWidth d)
    (hv : v % 2 ^ (8 * dtypeWidth d) = leAt e 0 (dtypeWidth d)) : encElem d (.int v) = e := by
  rw [encElem, hv, Int.toNat_natCast, leBytes_leAt_zero he]

theorem encElem_readElem {d : DType} {e : Bytes} (he : e.length = dtypeWidth d) : encElem d (readElem d e) = e := by
  have hlt := leAt_lt_two_pow e (dtypeWidth d)
  cases hr : dtypeReading d with
  | noValue =>
    rw [(dtypeWidth_eq_zero_iff d).2 hr, List.length_eq_zero_iff] at he
    simp only [readElem, hr, encElem, he]
  | signed => rw [readElem_of_signed hr, encElem_int he (sint_emod hlt)]
  | unsigned =>
    have hmod : (leAt e 0 (dtypeWidth d) : Int) % 2 ^ (8 * dtypeWidth d) = leAt e 0 (dtypeWidth d) :=
      Int.emod_eq_of_lt (by positivity) (by exact_mod_cast hlt)
    rw [readElem_of_unsigned hr, encElem_int he hmod]
  | pattern => simp only [readElem, hr, encElem, leBytes_leAt_zero he]
  | bytes => simp only [readElem, hr, encElem]
  | pair =>
    rw [dtypeWidth_of_pair hr] at he
    obtain ⟨b0, b1, rfl⟩ := List.length_eq_two.1 he
    simp only [readElem, hr, encElem]
    rfl

/-- Settles O43: the pattern is below `2^(8W)`, and two's complement takes its upper half down by `2^(8W)`. -/
theorem readingsAreInRangeAndInvertible : Obligations.ReadingsAreInRangeAndInvertible := by
  intro d e he
  have hlt := leAt_lt_two_pow e (dtypeWidth d)
  refine ⟨encElem_readElem he, fun hr => ?signed, fun hr => ?unsigned⟩
  case signed =>
    have hw : dtypeWidth d ≠ 0 := fun h0 => by
      rw [(dtypeWidth_eq_zero_iff d).1 h0] at hr
      cases hr
    exact ⟨_, readElem_of_signed hr e, sint_range (by omega) hlt⟩
  case unsigned => exact ⟨_, readElem_of_unsigned hr e, by positivity, by exact_mod_cast hlt⟩

/-! ### What a chunk at the cursor does (R171, R174) -/

section
variable {id tag : U8} {size : U16} {d : Option DType} {s : State}

theorem tlvTake_of_inactive (ha : s.tlvActive = false) : tlvTake id tag size d s = s := by
  simp [tlvTake, ha]

theorem tlvTake_of_cut_header (ha : s.tlvActive = true) (h4 : s.tlvLen - s.tlvCur < 4) :
    tlvTake id tag size d s =
      tlvHalt (emit (.tlvEvt (.truncatedHeader s.tlvCur (s.tlvLen - s.tlvCur))) s) := by
  rw [tlvTake, if_pos ha, if_pos h4]
  rfl

theorem tlvTake_of_cut_value (ha : s.tlvActive = true) (h4 : 4 ≤ s.tlvLen - s.tlvCur)
    (hv : s.tlvLen - s.tlvCur - 4 < size.toNat) :
    tlvTake id tag size d s =
      tlvHalt (emit (.tlvEvt (.truncatedValue s.tlvCur id tag size (s.tlvLen - s.tlvCur - 4))) s) := by
  rw [tlvTake, if_pos ha, if_neg (Nat.not_lt.2 h4), if_pos hv]
  rfl

theorem tlvTake_of_whole (ha : s.tlvActive = true) (hn : s.tlvCur + 4 + size.toNat ≤ s.tlvLen) :
    tlvTake id tag size d s =
      tlvAdvance size.toNat (emit (.tlvEvt (chunkEvent s.tlvBuf s.tlvCur id tag size d)) s) := by
  rw [tlvTake, if_pos ha, if_neg (by omega), if_neg (by omega), raiseError_chunkEvent]

end

/-- `TLV.STEP` takes the chunk whose header it reads at the cursor (R169, R171). -/
theorem exec_tlvStep (s : State) :
    exec .tlvStep s = .next (tlvTake s.chId s.chTag s.chSize (s.params.tags.dtype s.chTag) s) := rfl

/-- The verdict on a chunk of a known variant inside the payload, with the size rule and the elements as R157 and R160
state them. -/
theorem chunkEvent_some {p : Bytes} {c : Nat} (id tag : U8) {size : U16} (d : DType)
    (hn : c + 4 + size.toNat ≤ p.length) :
    chunkEvent p c id tag size (some d) =
      if size.toNat = 0 ∨ (dtypeKind d = .scalar ∧ size.toNat = dtypeWidth d) ∨
          (dtypeKind d = .array ∧ size.toNat % dtypeWidth d = 0) then
        .chunk c id tag size d ((p.drop (c + 4)).take size.toNat)
          (if dtypeWidth d = 0 then [] else (List.range (size.toNat / dtypeWidth d)).map fun k =>
            slice ((p.drop (c + 4)).take size.toNat) (k * dtypeWidth d) ((k + 1) * dtypeWidth d))
      else .sizeMismatch c id tag size d (dtypeWidth d) := by
  have hraw : ((p.drop (c + 4)).take size.toNat).length = size.toNat := by
    rw [List.length_take, List.length_drop]
    omega
  rw [chunkEvent, slice_eq_take_drop, elems_eq, hraw]
  exact if_congr (sizeOk_iff d _) rfl rfl

/-- Settles O32: the definition's three writes. -/
theorem tlvLoadReplacesThePayload : Obligations.TlvLoadReplacesThePayload := fun _ _ => rfl

/-- Settles O37: the chunk rows are `tlvTake` with the row's own variant (`exec_chunkRow`). -/
theorem chunkRowsHaltOnTruncation : Obligations.ChunkRowsHaltOnTruncation := by
  intro d id size s
  simp only [exec_chunkRow, tlvRow]
  refine ⟨fun ha => ?inactive, fun ha h4 => ?header, fun ha h4 hv => ?value⟩
  case inactive => rw [tlvTake_of_inactive ha]
  case header => rw [tlvTake_of_cut_header ha h4]; rfl
  case value => rw [tlvTake_of_cut_value ha h4 hv]; rfl

/-- Settles O34: the row's word stands at the cursor, so `TLV.STEP` reads the row's fields and, by `TAGMAP`, its
variant. -/
theorem tlvStepRunsTheChunkRow : Obligations.TlvStepRunsTheChunkRow := by
  intro s i rest h
  obtain ⟨d, id, size, hd, rfl, hbuf⟩ := decodeChunkWord_ok_iff.1 h
  obtain ⟨hid, htag, hsize⟩ := chunkFields_at hbuf
  rw [exec_tlvStep, exec_chunkRow, State.chId, State.chTag, State.chSize, hid, htag, hsize, hd, tlvRow]

/-- Settles O33, test by test in the order of R171. -/
theorem tlvStepDecodesOneChunk : Obligations.TlvStepDecodesOneChunk := by
  intro s
  rw [exec_tlvStep]
  congr 1
  cases ha : s.tlvActive with
  | false => rw [tlvTake_of_inactive ha, if_pos rfl]
  | true =>
    rw [if_neg (by decide)]
    by_cases h4 : s.tlvBuf.length - s.tlvCur < 4
    · rw [tlvTake_of_cut_header ha h4, if_pos h4]
      rfl
    rw [if_neg h4]
    have hsize : s.chSize.toNat = leAt s.tlvBuf (s.tlvCur + 2) 2 := field16_toNat ..
    by_cases hv : leAt s.tlvBuf (s.tlvCur + 2) 2 > s.tlvBuf.length - s.tlvCur - 4
    · rw [tlvTake_of_cut_value ha (Nat.not_lt.1 h4) (hsize ▸ hv)]
      exact (if_pos hv).symm
    · have hn : s.tlvCur + 4 + s.chSize.toNat ≤ s.tlvBuf.length := by omega
      rw [tlvTake_of_whole ha hn]
      refine Eq.trans ?_ (if_neg hv).symm
      cases hd : s.params.tags.dtype s.chTag with
      | none =>
        have hd' : s.params.tags.dtype (s.tlvBuf.getD (s.tlvCur + 1) 0) = none := hd
        rw [hd', hsize]
        rfl
      | some d =>
        have hd' : s.params.tags.dtype (s.tlvBuf.getD (s.tlvCur + 1) 0) = some d := hd
        rw [chunkEvent_some _ _ d hn, hd', hsize]
        rfl

/-! ### `decode_chunks` at an offset (R172) -/

/-- The chunk size that stands at an offset (R36). -/
def sizeAt (p : Bytes) (c : Nat) : Nat := (field16 p (c + 2)).toNat

/-- The verdict on the chunk at an offset that lies inside the payload (R172). -/
def eventAt (m : TagMap) (p : Bytes) (c : Nat) : TlvEvent :=
  chunkEvent p c (field8 p c) (field8 p (c + 1)) (field16 p (c + 2)) (m.dtype (field8 p (c + 1)))

theorem isTruncated_eventAt (m : TagMap) (p : Bytes) (c : Nat) : isTruncated (eventAt m p c) = false := by
  unfold eventAt chunkEvent
  split
  · rfl
  · split_ifs <;> rfl

theorem steppedOver_eventAt (m : TagMap) (p : Bytes) (c : Nat) : steppedOver (eventAt m p c) = 4 + sizeAt p c := by
  unfold eventAt chunkEvent
  split
  · rfl
  · split_ifs <;> rfl

/-- `es` are the events of the payload `p` from the offset `c` on: R172, one constructor for each of its cases. -/
inductive ChunksFrom (m : TagMap) (p : Bytes) : Nat → List TlvEvent → Prop
  | done : ChunksFrom m p p.length []
  | cutHeader {c : Nat} (hc : c < p.length) (h4 : p.length - c < 4) :
      ChunksFrom m p c [.truncatedHeader c (p.length - c)]
  | cutValue {c : Nat} (h4 : 4 ≤ p.length - c) (hv : p.length - c - 4 < sizeAt p c) :
      ChunksFrom m p c
        [.truncatedValue c (field8 p c) (field8 p (c + 1)) (field16 p (c + 2)) (p.length - c - 4)]
  | chunk {c : Nat} {es : List TlvEvent} (hn : c + 4 + sizeAt p c ≤ p.length)
      (rest : ChunksFrom m p (c + 4 + sizeAt p c) es) : ChunksFrom m p c (eventAt m p c :: es)

section
variable {m : TagMap} {p : Bytes} {n c : Nat} {es : List TlvEvent}

theorem decodeChunksFrom_length : decodeChunksFrom m p n p.length = [] := by
  cases n with
  | zero => rfl
  | succ n => exact if_pos rfl

theorem decodeChunksFrom_cut_header (hc : c < p.length) (h4 : p.length - c < 4) :
    decodeChunksFrom m p (n + 1) c = [.truncatedHeader c (p.length - c)] := by
  rw [decodeChunksFrom, if_neg hc.ne, if_pos h4]

theorem decodeChunksFrom_cut_value (h4 : 4 ≤ p.length - c) (hv : p.length - c - 4 < sizeAt p c) :
    decodeChunksFrom m p (n + 1) c =
      [.truncatedValue c (field8 p c) (field8 p (c + 1)) (field16 p (c + 2)) (p.length - c - 4)] := by
  rw [decodeChunksFrom, if_neg (by omega), if_neg (Nat.not_lt.2 h4)]
  exact if_pos hv

theorem decodeChunksFrom_whole (hn : c + 4 + sizeAt p c ≤ p.length) :
    decodeChunksFrom m p (n + 1) c = eventAt m p c :: decodeChunksFrom m p n (c + 4 + sizeAt p c) := by
  have hv : ¬ p.length - c - 4 < sizeAt p c := by omega
  rw [decodeChunksFrom, if_neg (by omega), if_neg (by omega)]
  exact if_neg hv

/-- With room for a chunk in every 4 bytes left, the decoder gives the events of R172. -/
theorem chunksFrom_decodeChunksFrom (hc : c ≤ p.length) (hroom : p.length ≤ c + 4 * n) :
    ChunksFrom m p c (decodeChunksFrom m p n c) := by
  induction n generalizing c with
  | zero =>
    obtain rfl : c = p.length := by omega
    exact .done
  | succ n ih =>
    obtain hlt | rfl := Nat.lt_or_eq_of_le hc
    · by_cases h4 : p.length - c < 4
      · rw [decodeChunksFrom_cut_header hlt h4]
        exact .cutHeader hlt h4
      by_cases hv : p.length - c - 4 < sizeAt p c
      · rw [decodeChunksFrom_cut_value (Nat.not_lt.1 h4) hv]
        exact .cutValue (Nat.not_lt.1 h4) hv
      · have hn : c + 4 + sizeAt p c ≤ p.length := by omega
        rw [decodeChunksFrom_whole hn]
        exact .chunk hn (ih hn (by omega))
    · rw [decodeChunksFrom_length]
      exact .done

/-- The events of R172 are determined: they are the decoder's. -/
theorem ChunksFrom.decodeChunksFrom_eq (h : ChunksFrom m p c es) (hroom : p.length ≤ c + 4 * n) :
    decodeChunksFrom m p n c = es := by
  induction h generalizing n with
  | done => exact decodeChunksFrom_length
  | cutHeader hc h4 =>
    obtain ⟨n, rfl⟩ := Nat.exists_eq_succ_of_ne_zero (n := n) (by omega)
    exact decodeChunksFrom_cut_header hc h4
  | cutValue h4 hv =>
    obtain ⟨n, rfl⟩ := Nat.exists_eq_succ_of_ne_zero (n := n) (by omega)
    exact decodeChunksFrom_cut_value h4 hv
  | chunk hn _ ih =>
    obtain ⟨n, rfl⟩ := Nat.exists_eq_succ_of_ne_zero (n := n) (by omega)
    rw [decodeChunksFrom_whole hn, ih (by omega)]

/-- The bound in `decode_chunks` is never met. -/
theorem chunksFrom_zero_iff : ChunksFrom m p 0 es ↔ decodeChunks m p = es := by
  constructor
  · exact fun h => h.decodeChunksFrom_eq (by omega)
  · rintro rfl
    exact chunksFrom_decodeChunksFrom (Nat.zero_le _) (by omega)

/-! ### Size accounting (R173, R175) -/

/-- The cursor after the last event: at the payload's end or, exactly when a chunk was truncated, short of it. -/
theorem ChunksFrom.end_offset (h : ChunksFrom m p c es) :
    c + (es.map steppedOver).sum ≤ p.length ∧
      (c + (es.map steppedOver).sum < p.length ↔ ∃ e ∈ es, isTruncated e = true) := by
  induction h with
  | done => simp
  | cutHeader hc h4 => simp [steppedOver, isTruncated, hc, hc.le]
  | @cutValue c h4 hv =>
    have hc : c < p.length := by omega
    simp [steppedOver, isTruncated, hc, hc.le]
  | chunk hn _ ih =>
    simpa [steppedOver_eventAt, isTruncated_eventAt, Nat.add_assoc] using ih

/-- A truncated chunk is the last event, and its `off` is where the events before it end. -/
theorem ChunksFrom.truncated_last (h : ChunksFrom m p c es) {es₁ es₂ : List TlvEvent} {e : TlvEvent}
    (hes : es = es₁ ++ e :: es₂) (he : isTruncated e = true) :
    es₂ = [] ∧ c + (es₁.map steppedOver).sum = eventOffset e := by
  induction h generalizing es₁ with
  | done => simp at hes
  | cutHeader | cutValue =>
    obtain ⟨rfl, hcons⟩ | ⟨-, hcons⟩ := List.singleton_eq_append_iff.1 hes
    · obtain ⟨rfl, rfl⟩ := List.cons.inj hcons
      exact ⟨rfl, rfl⟩
    · cases hcons
  | chunk hn _ ih =>
    cases es₁ with
    | nil =>
      obtain ⟨rfl, -⟩ := List.cons.inj hes
      rw [isTruncated_eventAt] at he
      cases he
    | cons e₁ es₁ =>
      obtain ⟨rfl, htail⟩ := List.cons.inj hes
      obtain ⟨hnil, hoff⟩ := ih htail
      refine ⟨hnil, ?_⟩
      rw [List.map_cons, List.sum_cons, steppedOver_eventAt, ← hoff]
      omega

/-- Every event but a cut header takes at least 4 bytes. -/
theorem ChunksFrom.length_le (h : ChunksFrom m p c es) : 4 * es.length ≤ p.length - c + 3 := by
  induction h with
  | done => simp
  | cutHeader hc _ =>
    rw [List.length_singleton]
    omega
  | cutValue h4 _ =>
    rw [List.length_singleton]
    omega
  | chunk hn _ ih =>
    rw [List.length_cons]
    omega

end

theorem chunksFrom_decodeChunks (m : TagMap) (p : Bytes) : ChunksFrom m p 0 (decodeChunks m p) :=
  chunksFrom_zero_iff.2 rfl

/-- Settles O39: without a truncated chunk the events end nowhere short of the payload's end. -/
theorem chunkSizesAddUp : Obligations.ChunkSizesAddUp := by
  intro m p
  have h := chunksFrom_decodeChunks m p
  refine ⟨fun hgood => ?_, fun es es' e hes he => ?_⟩
  · obtain ⟨hle, hshort⟩ := h.end_offset
    have hnot : ¬ ∃ e ∈ decodeChunks m p, isTruncated e = true := by
      rintro ⟨e, hmem, he⟩
      rw [hgood e hmem] at he
      cases he
    have := mt hshort.1 hnot
    omega
  · simpa using h.truncated_last hes he

/-- Settles O40: a step halts the unit or steps over a chunk that lies inside the payload. -/
theorem tlvStepsTerminate : Obligations.TlvStepsTerminate := by
  refine ⟨fun s t hs ha ht => ?step, fun m p => ?count⟩
  case step =>
    obtain ⟨-, ⟨-, hcur, -⟩, -⟩ := hs
    cases ht
    obtain ⟨hi, -⟩ | ⟨-, -, h⟩ | ⟨-, -, -, h⟩ | ⟨-, hn, h⟩ :=
      tlvTake_cases s.chId s.chTag s.chSize (s.params.tags.dtype s.chTag) s
    · rw [ha] at hi
      cases hi
    · rw [h]
      exact ⟨.inl rfl, le_rfl, hcur⟩
    · rw [h]
      exact ⟨.inl rfl, le_rfl, hcur⟩
    · rw [h]
      refine ⟨.inr (Nat.le_add_right ..), ?_, hn⟩
      rw [tlvAdvance_tlvCur, emit_tlvCur]
      omega
  case count =>
    have hlen := (chunksFrom_decodeChunks m p.bytes).length_le
    have := p.fits
    omega

/-! ### Stepping through a payload (R172) -/

/-- The TLV unit at the offset `c` of the payload `p`. -/
def tlvAt (p : Bytes) (c : Nat) (s : State) : State :=
  { s with tlvBuf := p, tlvCur := c, tlvActive := decide (c < p.length) }

/-- The TLV unit stopped at the offset `c` of the payload `p`. -/
def tlvStoppedAt (p : Bytes) (c : Nat) (s : State) : State :=
  { s with tlvBuf := p, tlvCur := c, tlvActive := false }

/-- A loaded payload is decoded from offset 0 on (R170). -/
theorem exec_tlvLoad (p : Payload) (s : State) : exec (.tlvLoad p) s = .next (tlvAt p.bytes 0 s) := rfl

theorem tlvAt_length (p : Bytes) (s : State) : tlvAt p p.length s = tlvStoppedAt p p.length s := by
  simp [tlvAt, tlvStoppedAt]

section
variable {p : Bytes} {c : Nat} (s : State)

theorem exec_tlvStep_cut_header (hc : c < p.length) (h4 : p.length - c < 4) :
    exec .tlvStep (tlvAt p c s) =
      .next (tlvStoppedAt p c (emit (.tlvEvt (.truncatedHeader c (p.length - c))) s)) := by
  have ha : (tlvAt p c s).tlvActive = true := decide_eq_true hc
  rw [exec_tlvStep, tlvTake_of_cut_header ha h4]
  rfl

theorem exec_tlvStep_cut_value (h4 : 4 ≤ p.length - c) (hv : p.length - c - 4 < sizeAt p c) :
    exec .tlvStep (tlvAt p c s) = .next (tlvStoppedAt p c (emit (.tlvEvt
      (.truncatedValue c (field8 p c) (field8 p (c + 1)) (field16 p (c + 2)) (p.length - c - 4))) s)) := by
  have ha : (tlvAt p c s).tlvActive = true := decide_eq_true (by omega)
  have hv' : p.length - c - 4 < (tlvAt p c s).chSize.toNat := hv
  rw [exec_tlvStep, tlvTake_of_cut_value ha h4 hv']
  rfl

theorem exec_tlvStep_whole (hn : c + 4 + sizeAt p c ≤ p.length) :
    exec .tlvStep (tlvAt p c s) =
      .next (tlvAt p (c + 4 + sizeAt p c) (emit (.tlvEvt (eventAt s.params.tags p c)) s)) := by
  have ha : (tlvAt p c s).tlvActive = true := decide_eq_true (by omega)
  have hn' : c + 4 + (tlvAt p c s).chSize.toNat ≤ p.length := hn
  rw [exec_tlvStep, tlvTake_of_whole ha hn']
  rfl

end

/-- Steps of an inactive unit do nothing (R174). -/
theorem execAll_tlvSteps_inactive (k : Nat) {s : State} (ha : s.tlvActive = false) :
    execAll (List.replicate k .tlvStep) s = .next s := by
  induction k with
  | zero => rfl
  | succ k ih =>
    have hstep : exec .tlvStep s = .next s := by rw [exec_tlvStep, tlvTake_of_inactive ha]
    rw [List.replicate_succ, execAll_cons hstep, ih]

/-- A step that stops the unit ends the payload, however many steps follow. -/
theorem execAll_tlvSteps_stop {k : Nat} {p : Bytes} {c : Nat} {s t : State} (hk : 0 < k)
    (h : exec .tlvStep s = .next (tlvStoppedAt p c t)) :
    execAll (List.replicate k .tlvStep) s = .next (tlvStoppedAt p c t) := by
  obtain ⟨k, rfl⟩ := Nat.exists_eq_succ_of_ne_zero hk.ne'
  rw [List.replicate_succ, execAll_cons h, execAll_tlvSteps_inactive k rfl]

/-- The events `es` go out on `TLV_EVT`, in order. -/
def emitTlv (es : List TlvEvent) (s : State) : State :=
  { s with trace := s.trace ++ es.map Output.tlvEvt }

theorem emitTlv_cons (e : TlvEvent) (es : List TlvEvent) (s : State) :
    emitTlv (e :: es) s = emitTlv es (emit (.tlvEvt e) s) := by
  simp [emitTlv, emit]

/-- Enough steps from an offset emit the events of R172 and stop where they end. -/
theorem execAll_tlvSteps {m : TagMap} {p : Bytes} {c : Nat} {es : List TlvEvent} (h : ChunksFrom m p c es)
    {k : Nat} (hk : p.length ≤ c + 4 * k) {s : State} (hm : s.params.tags = m) :
    execAll (List.replicate k .tlvStep) (tlvAt p c s) =
      .next (tlvStoppedAt p (c + (es.map steppedOver).sum) (emitTlv es s)) := by
  induction h generalizing k s with
  | done =>
    rw [tlvAt_length, execAll_tlvSteps_inactive k rfl]
    simp [emitTlv]
  | cutHeader hc h4 => exact execAll_tlvSteps_stop (by omega) (exec_tlvStep_cut_header s hc h4)
  | cutValue h4 hv => exact execAll_tlvSteps_stop (by omega) (exec_tlvStep_cut_value s h4 hv)
  | @chunk c es hn _ ih =>
    obtain ⟨k, rfl⟩ := Nat.exists_eq_succ_of_ne_zero (n := k) (by omega)
    have htail := ih (k := k) (s := emit (.tlvEvt (eventAt m p c)) s) (by omega) hm
    rw [List.replicate_succ, execAll_cons (exec_tlvStep_whole s hn), hm, htail, List.map_cons, List.sum_cons,
      steppedOver_eventAt, emitTlv_cons]
    simp only [Nat.add_assoc]

/-- Settles O38: 16384 steps are enough for the 65535 bytes of the longest payload. -/
theorem tlvDecodeEmitsDecodeChunks : Obligations.TlvDecodeEmitsDecodeChunks := by
  intro p s
  have h := chunksFrom_decodeChunks s.params.tags p.bytes
  have hfits := p.fits
  obtain ⟨-, hshort⟩ := h.end_offset
  refine ⟨_, ?_, rfl, by simpa using hshort⟩
  rw [tlvDecodeOps, execAll_cons (exec_tlvLoad p s), tlvRunOps, execAll_tlvSteps h (by omega) rfl, Nat.zero_add]
  rfl

/-! ### Decoding encoded chunks (R178, R179) -/

theorem encodeChunks_cons (id tag : U8) (raw : Bytes) (ks : List (U8 × U8 × Bytes)) :
    encodeChunks ((id, tag, raw) :: ks) =
      encChunkHeader id tag (BitVec.ofNat 16 raw.length) ++ (raw ++ encodeChunks ks) := by
  rw [encodeChunks, List.flatMap_cons, encChunk, List.append_assoc]
  rfl

/-- The chunk at an offset where an encoded legal chunk stands is delivered (R172, R178). -/
theorem eventAt_encoded {m : TagMap} {p raw t : Bytes} {c : Nat} {id tag : U8} {d : DType}
    (h : p.drop c = encChunkHeader id tag (BitVec.ofNat 16 raw.length) ++ (raw ++ t))
    (hraw : raw.length ≤ payloadMax) (hd : m.dtype tag = some d) (hok : sizeOk d raw.length = true) :
    sizeAt p c = raw.length ∧
      eventAt m p c = .chunk c id tag (BitVec.ofNat 16 raw.length) d raw (elems d raw) := by
  obtain ⟨hid, htag, hsize⟩ := chunkFields_at h
  have hlen : (BitVec.ofNat 16 raw.length).toNat = raw.length :=
    (BitVec.toNat_ofNat ..).trans (Nat.mod_eq_of_lt (Nat.lt_succ_of_le hraw))
  have hslice : slice p (c + 4) (c + 4 + raw.length) = raw := by
    rw [slice_eq_take_drop, ← List.drop_drop, h, List.drop_left' (encChunkHeader_length ..), List.take_left]
  refine ⟨by rw [sizeAt, hsize, hlen], ?_⟩
  rw [eventAt, hid, htag, hsize, hd, chunkEvent, hlen, if_pos hok, hslice]

/-- The events of encoded legal chunks behind any other bytes. -/
theorem chunksFrom_encodeChunks {m : TagMap} {p : Bytes} (ks : List (U8 × U8 × Bytes)) {c : Nat} (hc : c ≤ p.length)
    (hks : ∀ k ∈ ks, ∃ d, m.dtype k.2.1 = some d ∧ sizeOk d k.2.2.length = true)
    (hp : p.drop c = encodeChunks ks) (hlen : (encodeChunks ks).length ≤ payloadMax) :
    ChunksFrom m p c (chunkEventsFrom m c ks) := by
  induction ks generalizing c with
  | nil =>
    obtain rfl : c = p.length := hc.antisymm (List.drop_eq_nil_iff.1 hp)
    exact .done
  | cons k ks ih =>
    obtain ⟨id, tag, raw⟩ := k
    rw [encodeChunks_cons] at hp hlen
    simp only [List.length_append, encChunkHeader_length] at hlen
    obtain ⟨d, hd, hok⟩ := hks _ List.mem_cons_self
    obtain ⟨hsize, hevent⟩ := eventAt_encoded hp (by omega) hd hok
    have hroom : c + 4 + raw.length ≤ p.length := by
      have := congrArg List.length hp
      simp only [List.length_drop, List.length_append, encChunkHeader_length] at this
      omega
    have hrest : p.drop (c + 4 + raw.length) = encodeChunks ks := by
      rw [← List.drop_drop, ← List.drop_drop, hp, List.drop_left' (encChunkHeader_length ..), List.drop_left]
    have htail := ih hroom (fun k hk => hks k (List.mem_cons_of_mem _ hk)) hrest (by omega)
    simp only [chunkEventsFrom, hd]
    rw [← hevent]
    exact .chunk (hsize ▸ hroom) (hsize ▸ htail)

/-- Settles O41: the encoded list is its own rest from offset 0 on. -/
theorem encodedChunksAreDecodedBack : Obligations.EncodedChunksAreDecodedBack := by
  intro m ks hks hlen
  exact chunksFrom_zero_iff.1 (chunksFrom_encodeChunks ks (Nat.zero_le _) hks List.drop_zero hlen)

end Sys2Proof.Machine
end

section
/-! # The chunk rows (44_data_types.md)

A row of the table is told by its variant: its instruction, element width and tag are functions of it. So one equation
for the scalar variants and one for the array variants give every row. -/

namespace Sys2Proof

/-- The variants of kind scalar, in the order of R156. -/
def scalarVariants : List DType :=
  [.noneType, .i8, .u8, .i16, .u16, .i32, .u32, .f32, .f64, .cardUid, .cardRange]

/-- The variants of kind array, in the order of R156. -/
def arrayVariants : List DType :=
  [.string, .arrI8, .arrU8, .arrI16, .arrU16, .arrI32, .arrU32, .arrF32, .arrF64, .arrCardUid]

/-- What 44_data_types.md tabulates for a variant: its instruction, the variant, its element width and its tag. -/
def DType.tableRow (d : DType) : (U8 → U16 → Instr) × DType × Nat × (TagMap → U8) :=
  (d.row, d, Machine.dtypeWidth d, fun m => m.tagOf d)

end Sys2Proof

namespace Sys2Proof.Machine

theorem mem_scalarVariants_iff (d : DType) : d ∈ scalarVariants ↔ dtypeKind d = .scalar := by
  cases d <;> decide

theorem mem_arrayVariants_iff (d : DType) : d ∈ arrayVariants ↔ dtypeKind d = .array := by
  cases d <;> decide

/-- `NONE`, the only variant without an element width, is scalar (R156). -/
theorem dtypeWidth_ne_zero_of_array {d : DType} (hk : dtypeKind d = .array) : dtypeWidth d ≠ 0 := by
  cases d with
  | noneType => cases hk
  | _ => decide

/-- A chunk row inside the payload delivers its verdict and steps over the chunk (R171). -/
theorem exec_chunkRow_of_whole (d : DType) (id : U8) {size : U16} {s : State} (ha : s.tlvActive = true)
    (hn : s.tlvCur + 4 + size.toNat ≤ s.tlvBuf.length) :
    exec (d.row id size) s = .next { s with
      tlvCur := s.tlvCur + 4 + size.toNat
      tlvActive := decide (s.tlvCur + 4 + size.toNat < s.tlvBuf.length)
      trace := s.trace ++ [.tlvEvt
        (chunkEvent s.tlvBuf s.tlvCur id (s.params.tags.tagOf d) size (some d))] } := by
  rw [exec_chunkRow, tlvRow, tlvTake_of_whole ha hn]
  rfl

section
variable {d : DType} {p : Bytes} {c : Nat} {size : U16}

/-- A scalar chunk holds no element or one (R157, R158, R160). -/
theorem chunkEvent_of_scalar (hk : dtypeKind d = .scalar) (id tag : U8) (hn : c + 4 + size.toNat ≤ p.length) :
    chunkEvent p c id tag size (some d) =
      if size = 0 then .chunk c id tag 0 d [] []
      else if size.toNat = dtypeWidth d then
        .chunk c id tag size d ((p.drop (c + 4)).take size.toNat) [(p.drop (c + 4)).take size.toNat]
      else .sizeMismatch c id tag size d (dtypeWidth d) := by
  rw [chunkEvent_some id tag d hn]
  by_cases h0 : size = 0
  · subst h0
    simp
  have hne : size.toNat ≠ 0 := fun h => h0 (BitVec.eq_of_toNat_eq h)
  rw [if_neg h0]
  by_cases hw : size.toNat = dtypeWidth d
  · have hone : size.toNat / size.toNat = 1 := Nat.div_self (Nat.pos_of_ne_zero hne)
    simp [hk, ← hw, hne, hone, slice]
  · simp [hk, hw, hne]

/-- An array chunk holds the consecutive slices of the element width (R157, R158, R160). -/
theorem chunkEvent_of_array (hk : dtypeKind d = .array) (id tag : U8) (hn : c + 4 + size.toNat ≤ p.length) :
    chunkEvent p c id tag size (some d) =
      if size.toNat % dtypeWidth d = 0 then
        .chunk c id tag size d ((p.drop (c + 4)).take size.toNat)
          ((List.range (size.toNat / dtypeWidth d)).map fun k =>
            (((p.drop (c + 4)).take size.toNat).drop (k * dtypeWidth d)).take (dtypeWidth d))
      else .sizeMismatch c id tag size d (dtypeWidth d) := by
  have hlegal : (size.toNat = 0 ∨ (dtypeKind d = .scalar ∧ size.toNat = dtypeWidth d) ∨
      (dtypeKind d = .array ∧ size.toNat % dtypeWidth d = 0)) ↔ size.toNat % dtypeWidth d = 0 := by
    simp only [hk, reduceCtorEq, false_and, true_and, false_or, or_iff_right_iff_imp]
    intro h
    rw [h, Nat.zero_mod]
  rw [chunkEvent_some id tag d hn, if_neg (dtypeWidth_ne_zero_of_array hk), if_congr hlegal rfl rfl]
  simp only [Nat.succ_mul, slice_eq_take_drop]

end

/-- Settles O35: the rows listed are those of the scalar variants, and the verdict is `chunkEvent_of_scalar`. -/
theorem scalarChunkRows : Obligations.ScalarChunkRows := by
  intro row hrow id size s ha hn
  obtain ⟨d, hd, rfl⟩ : ∃ d ∈ scalarVariants, d.tableRow = row := List.mem_map.1 hrow
  have hk := (mem_scalarVariants_iff d).1 hd
  have hexec := exec_chunkRow_of_whole d id ha hn
  rw [chunkEvent_of_scalar hk id _ hn] at hexec
  exact hexec

/-- Settles O36: the rows listed are those of the array variants, and the verdict is `chunkEvent_of_array`. -/
theorem arrayChunkRows : Obligations.ArrayChunkRows := by
  intro row hrow id size s ha hn
  obtain ⟨d, hd, rfl⟩ : ∃ d ∈ arrayVariants, d.tableRow = row := List.mem_map.1 hrow
  have hk := (mem_arrayVariants_iff d).1 hd
  have hexec := exec_chunkRow_of_whole d id ha hn
  rw [chunkEvent_of_array hk id _ hn] at hexec
  exact hexec

end Sys2Proof.Machine
end

section
/-!
# The error conditions: entry by unit

What raising an event does to its unit (R201 to R203). The TX and RX rules are `raiseError_tx` and
`raiseError_rx`; the TLV rule is told here by `isTruncated` and `steppedOver`.
-/
namespace Sys2Proof.Machine

/-- A truncated chunk halts the TLV unit, the cursor staying where it is (R203). -/
theorem raiseError_tlv_of_isTruncated {e : TlvEvent} (h : isTruncated e = true) (s : State) :
    raiseError (.tlvEvt e) s = tlvHalt (emit (.tlvEvt e) s) := by
  cases e with
  | truncatedHeader | truncatedValue => rfl
  | chunk | unknownDataType | sizeMismatch => cases h

/-- Any other event steps over its chunk: the 4 header bytes and the value (R203). -/
theorem raiseError_tlv_of_not_isTruncated {e : TlvEvent} (h : isTruncated e = false) (s : State) :
    ∃ n, steppedOver e = 4 + n ∧ raiseError (.tlvEvt e) s = tlvAdvance n (emit (.tlvEvt e) s) := by
  cases e with
  | chunk _ _ _ size | unknownDataType _ _ _ size | sizeMismatch _ _ _ size => exact ⟨size.toNat, rfl, rfl⟩
  | truncatedHeader | truncatedValue => cases h

/-- Settles O44: one entry rule per unit, that of TLV told apart by whether the chunk was truncated. -/
theorem errorsEnterByUnit : Obligations.ErrorsEnterByUnit := by
  intro s
  refine ⟨fun len => ?tx, fun e => ?rx, fun e he => ?halt, fun e he => ?stepOver⟩
  case tx => exact raiseError_tx (.payloadTooLong len) s
  case rx => exact raiseError_rx e s
  case halt => exact raiseError_tlv_of_isTruncated he s
  case stepOver =>
    obtain ⟨n, hsize, hraise⟩ := raiseError_tlv_of_not_isTruncated he s
    rw [hraise, hsize, ← Nat.add_assoc]
    rfl

end Sys2Proof.Machine
end
